-- ==== Sys2Proof/Word.lean ====
section
/-! DEFINITION. The word types of the DS instruction class and the plainest arithmetic on addresses. -/

namespace Sys2Proof

/-- One byte of LDS, GDS or instruction memory (R29, R30, R85). -/
abbrev Byte := BitVec 8

/-- One lane's element of a vector register, or one dword of memory (R25, R15). -/
abbrev Word := BitVec 32

/-- A DS instruction word `I` (R75). -/
abbrev InstrWord := BitVec 64

/-- `x` rounded down to a multiple of `n`. For a power of two `n` this clears the low bits of `x`, which is how
every access is aligned (R47, R48, R50); a byte access (`n = 1`) is left as it is. -/
def alignDown (n x : Nat) : Nat := x / n * n

end Sys2Proof
end

