-- ==== Sys2Proof/Config.lean ====
section
/-! DEFINITION. What an implementation or a launch fixes (R5), and the free values the spec leaves open. -/

namespace Sys2Proof

/-- The architecture version, parameter `ARCH` (R2, R5). -/
inductive Arch where
  /-- `GCN1_0` -/
  | gcn10
  /-- `GCN1_1` -/
  | gcn11
  /-- `GCN1_2` -/
  | gcn12
  deriving DecidableEq, Repr

/-- Parameter `DS_LAYOUT` (R5, R86): the source's field table is its only sourced value (log entry 13). -/
inductive DsLayout where
  | sourceTable
  deriving DecidableEq, Repr

/-- Parameter `OOR_POLICY` (R5, R53). `fault` is the certified value; `zeroDrop` is the alternative R53 records from
general knowledge, on which no certified claim may rest (log entry 11). -/
inductive OorPolicy where
  | fault
  | zeroDrop
  deriving DecidableEq, Repr

/-- The two data address spaces (R45). -/
inductive Space where
  | lds
  | gds
  deriving DecidableEq, Repr

/-- The parameters of R5 that are open or that a model may vary. They are fixed for a whole run (R36, last but one
row of its table): State carries them and no step changes them (log entry 1). -/
structure Params where
  /-- `ARCH` -/
  arch : Arch
  /-- `DS_LAYOUT` -/
  layout : DsLayout
  /-- `WAVE_SIZE`: lanes of the wavefront -/
  waveSize : Nat
  /-- `VGPR_ALLOC`: vector registers the wavefront owns (R25) -/
  vgprAlloc : Nat
  /-- `LDS_SIZE` in bytes (R29) -/
  ldsSize : Nat
  /-- `GDS_SIZE` in bytes (R30) -/
  gdsSize : Nat
  /-- `ADMIT_GK`, decided `false` (D26): whether the 66 general-knowledge readings are executed (R303) -/
  admitGk : Bool
  /-- `OOR_POLICY` -/
  oorPolicy : OorPolicy
  deriving DecidableEq, Repr

/-- FREE VALUE (`LANE_ORDER`, R5, R59; log entry 7). The number that picks the order in which the active lanes of the
`n`-th data-share instruction take effect. It has no body: nothing can be proved about its value, so a claim holds for
every order. -/
opaque Config.laneChoice : Nat → Nat

/-- Floating-point operations on bit patterns of `w` bits: the four that R5 names for parameter `FLOAT`. Which
functions the record holds, and the shape of the comparison, are the model's choice (log entry 28). -/
structure FloatOps (w : Nat) where
  /-- comparison -/
  compare : BitVec w → BitVec w → Bool
  /-- minimum -/
  minimum : BitVec w → BitVec w → BitVec w
  /-- maximum -/
  maximum : BitVec w → BitVec w → BitVec w
  /-- addition -/
  add : BitVec w → BitVec w → BitVec w
  deriving Inhabited

/-- Parameter `FLOAT` (R5, D33): the operations for `_F32` and for `_F64` mnemonics. -/
structure FloatConfig where
  f32 : FloatOps 32
  f64 : FloatOps 64
  deriving Inhabited

/-- `FLOAT`, an uninterpreted configuration record (R5): it has no body, so nothing can be proved about it. Unused, as
D33 says: every floating-point DS instruction is refused (R303 item 2), and the record is kept so that a future source
can be plugged in. It is a constant and no field of `Params`, because State is plain data (log entry 28). -/
opaque Config.float : FloatConfig

end Sys2Proof
end

