-- ==== Sys2Proof/Syntax.lean ====
section
/-! DEFINITION. The instructions: one constructor of `Instr` for each of the 145 mnemonics of spec/opcode_table.json (R81),
each carrying every field of the decoded DS term (R92). -/

namespace Sys2Proof

/-- The mnemonics of the opcode list (R81, R93), as names without operands. -/
inductive Mnemonic where
  /-- `DS_ADD_U32` (R101) -/
  | dsAddU32
  /-- `DS_SUB_U32` (R102) -/
  | dsSubU32
  /-- `DS_RSUB_U32` (R103) -/
  | dsRsubU32
  /-- `DS_INC_U32` (R104) -/
  | dsIncU32
  /-- `DS_DEC_U32` (R105) -/
  | dsDecU32
  /-- `DS_MIN_I32` (R106) -/
  | dsMinI32
  /-- `DS_MAX_I32` (R107) -/
  | dsMaxI32
  /-- `DS_MIN_U32` (R108) -/
  | dsMinU32
  /-- `DS_MAX_U32` (R109) -/
  | dsMaxU32
  /-- `DS_AND_B32` (R110) -/
  | dsAndB32
  /-- `DS_OR_B32` (R111) -/
  | dsOrB32
  /-- `DS_XOR_B32` (R112) -/
  | dsXorB32
  /-- `DS_MSKOR_B32` (R113) -/
  | dsMskorB32
  /-- `DS_WRITE_B32` (R121) -/
  | dsWriteB32
  /-- `DS_WRITE2_B32` (R122) -/
  | dsWrite2B32
  /-- `DS_WRITE2ST64_B32` (R123) -/
  | dsWrite2st64B32
  /-- `DS_CMPST_B32` (R114) -/
  | dsCmpstB32
  /-- `DS_CMPST_F32` (R115) -/
  | dsCmpstF32
  /-- `DS_MIN_F32` (R116) -/
  | dsMinF32
  /-- `DS_MAX_F32` (R117) -/
  | dsMaxF32
  /-- `DS_NOP` (R281) -/
  | dsNop
  /-- `DS_ADD_F32` (R118) -/
  | dsAddF32
  /-- `DS_GWS_SEMA_RELEASE_ALL` (R282) -/
  | dsGwsSemaReleaseAll
  /-- `DS_GWS_INIT` (R283) -/
  | dsGwsInit
  /-- `DS_GWS_SEMA_V` (R284) -/
  | dsGwsSemaV
  /-- `DS_GWS_SEMA_BR` (R285) -/
  | dsGwsSemaBr
  /-- `DS_GWS_SEMA_P` (R286) -/
  | dsGwsSemaP
  /-- `DS_GWS_BARRIER` (R287) -/
  | dsGwsBarrier
  /-- `DS_WRITE_B8` (R124) -/
  | dsWriteB8
  /-- `DS_WRITE_B16` (R125) -/
  | dsWriteB16
  /-- `DS_ADD_RTN_U32` (R141) -/
  | dsAddRtnU32
  /-- `DS_SUB_RTN_U32` (R142) -/
  | dsSubRtnU32
  /-- `DS_RSUB_RTN_U32` (R143) -/
  | dsRsubRtnU32
  /-- `DS_INC_RTN_U32` (R144) -/
  | dsIncRtnU32
  /-- `DS_DEC_RTN_U32` (R145) -/
  | dsDecRtnU32
  /-- `DS_MIN_RTN_I32` (R146) -/
  | dsMinRtnI32
  /-- `DS_MAX_RTN_I32` (R147) -/
  | dsMaxRtnI32
  /-- `DS_MIN_RTN_U32` (R148) -/
  | dsMinRtnU32
  /-- `DS_MAX_RTN_U32` (R149) -/
  | dsMaxRtnU32
  /-- `DS_AND_RTN_B32` (R150) -/
  | dsAndRtnB32
  /-- `DS_OR_RTN_B32` (R151) -/
  | dsOrRtnB32
  /-- `DS_XOR_RTN_B32` (R152) -/
  | dsXorRtnB32
  /-- `DS_MSKOR_RTN_B32` (R153) -/
  | dsMskorRtnB32
  /-- `DS_WRXCHG_RTN_B32` (R154) -/
  | dsWrxchgRtnB32
  /-- `DS_WRXCHG2_RTN_B32` (R155) -/
  | dsWrxchg2RtnB32
  /-- `DS_WRXCHG2ST64_RTN_B32` (R156) -/
  | dsWrxchg2st64RtnB32
  /-- `DS_CMPST_RTN_B32` (R157) -/
  | dsCmpstRtnB32
  /-- `DS_CMPST_RTN_F32` (R158) -/
  | dsCmpstRtnF32
  /-- `DS_MIN_RTN_F32` (R159) -/
  | dsMinRtnF32
  /-- `DS_MAX_RTN_F32` (R160) -/
  | dsMaxRtnF32
  /-- `DS_WRAP_RTN_B32` (R161) -/
  | dsWrapRtnB32
  /-- `DS_SWIZZLE_B32` (R288) -/
  | dsSwizzleB32
  /-- `DS_ADD_RTN_F32` (R162) -/
  | dsAddRtnF32
  /-- `DS_READ_B32` (R171) -/
  | dsReadB32
  /-- `DS_READ2_B32` (R172) -/
  | dsRead2B32
  /-- `DS_READ2ST64_B32` (R173) -/
  | dsRead2st64B32
  /-- `DS_READ_I8` (R174) -/
  | dsReadI8
  /-- `DS_READ_U8` (R175) -/
  | dsReadU8
  /-- `DS_READ_I16` (R176) -/
  | dsReadI16
  /-- `DS_READ_U16` (R177) -/
  | dsReadU16
  /-- `DS_CONSUME` (R289) -/
  | dsConsume
  /-- `DS_APPEND` (R290) -/
  | dsAppend
  /-- `DS_PERMUTE_B32` (R292) -/
  | dsPermuteB32
  /-- `DS_ORDERED_COUNT` (R291) -/
  | dsOrderedCount
  /-- `DS_BPERMUTE_B32` (R293) -/
  | dsBpermuteB32
  /-- `DS_ADD_U64` (R191) -/
  | dsAddU64
  /-- `DS_SUB_U64` (R192) -/
  | dsSubU64
  /-- `DS_RSUB_U64` (R193) -/
  | dsRsubU64
  /-- `DS_INC_U64` (R194) -/
  | dsIncU64
  /-- `DS_DEC_U64` (R195) -/
  | dsDecU64
  /-- `DS_MIN_I64` (R196) -/
  | dsMinI64
  /-- `DS_MAX_I64` (R197) -/
  | dsMaxI64
  /-- `DS_MIN_U64` (R198) -/
  | dsMinU64
  /-- `DS_MAX_U64` (R199) -/
  | dsMaxU64
  /-- `DS_AND_B64` (R200) -/
  | dsAndB64
  /-- `DS_OR_B64` (R201) -/
  | dsOrB64
  /-- `DS_XOR_B64` (R202) -/
  | dsXorB64
  /-- `DS_MSKOR_B64` (R203) -/
  | dsMskorB64
  /-- `DS_WRITE_B64` (R126) -/
  | dsWriteB64
  /-- `DS_WRITE2_B64` (R127) -/
  | dsWrite2B64
  /-- `DS_WRITE2ST64_B64` (R128) -/
  | dsWrite2st64B64
  /-- `DS_CMPST_B64` (R204) -/
  | dsCmpstB64
  /-- `DS_CMPST_F64` (R205) -/
  | dsCmpstF64
  /-- `DS_MIN_F64` (R206) -/
  | dsMinF64
  /-- `DS_MAX_F64` (R207) -/
  | dsMaxF64
  /-- `DS_ADD_RTN_U64` (R208) -/
  | dsAddRtnU64
  /-- `DS_SUB_RTN_U64` (R209) -/
  | dsSubRtnU64
  /-- `DS_RSUB_RTN_U64` (R210) -/
  | dsRsubRtnU64
  /-- `DS_INC_RTN_U64` (R211) -/
  | dsIncRtnU64
  /-- `DS_DEC_RTN_U64` (R212) -/
  | dsDecRtnU64
  /-- `DS_MIN_RTN_I64` (R213) -/
  | dsMinRtnI64
  /-- `DS_MAX_RTN_I64` (R214) -/
  | dsMaxRtnI64
  /-- `DS_MIN_RTN_U64` (R215) -/
  | dsMinRtnU64
  /-- `DS_MAX_RTN_U64` (R216) -/
  | dsMaxRtnU64
  /-- `DS_AND_RTN_B64` (R217) -/
  | dsAndRtnB64
  /-- `DS_OR_RTN_B64` (R218) -/
  | dsOrRtnB64
  /-- `DS_XOR_RTN_B64` (R219) -/
  | dsXorRtnB64
  /-- `DS_MSKOR_RTN_B64` (R220) -/
  | dsMskorRtnB64
  /-- `DS_WRXCHG_RTN_B64` (R221) -/
  | dsWrxchgRtnB64
  /-- `DS_WRXCHG2_RTN_B64` (R222) -/
  | dsWrxchg2RtnB64
  /-- `DS_WRXCHG2ST64_RTN_B64` (R223) -/
  | dsWrxchg2st64RtnB64
  /-- `DS_CMPST_RTN_B64` (R224) -/
  | dsCmpstRtnB64
  /-- `DS_CMPST_RTN_F64` (R225) -/
  | dsCmpstRtnF64
  /-- `DS_MIN_RTN_F64` (R226) -/
  | dsMinRtnF64
  /-- `DS_MAX_RTN_F64` (R227) -/
  | dsMaxRtnF64
  /-- `DS_READ_B64` (R178) -/
  | dsReadB64
  /-- `DS_READ2_B64` (R179) -/
  | dsRead2B64
  /-- `DS_READ2ST64_B64` (R180) -/
  | dsRead2st64B64
  /-- `DS_CONDXCHG32_RTN_B64` (R228) -/
  | dsCondxchg32RtnB64
  /-- `DS_ADD_SRC2_U32` (R241) -/
  | dsAddSrc2U32
  /-- `DS_SUB_SRC2_U32` (R242) -/
  | dsSubSrc2U32
  /-- `DS_RSUB_SRC2_U32` (R243) -/
  | dsRsubSrc2U32
  /-- `DS_INC_SRC2_U32` (R244) -/
  | dsIncSrc2U32
  /-- `DS_DEC_SRC2_U32` (R245) -/
  | dsDecSrc2U32
  /-- `DS_MIN_SRC2_I32` (R246) -/
  | dsMinSrc2I32
  /-- `DS_MAX_SRC2_I32` (R247) -/
  | dsMaxSrc2I32
  /-- `DS_MIN_SRC2_U32` (R248) -/
  | dsMinSrc2U32
  /-- `DS_MAX_SRC2_U32` (R249) -/
  | dsMaxSrc2U32
  /-- `DS_AND_SRC2_B32` (R250) -/
  | dsAndSrc2B32
  /-- `DS_OR_SRC2_B32` (R251) -/
  | dsOrSrc2B32
  /-- `DS_XOR_SRC2_B32` (R252) -/
  | dsXorSrc2B32
  /-- `DS_WRITE_SRC2_B32` (R253) -/
  | dsWriteSrc2B32
  /-- `DS_MIN_SRC2_F32` (R254) -/
  | dsMinSrc2F32
  /-- `DS_MAX_SRC2_F32` (R255) -/
  | dsMaxSrc2F32
  /-- `DS_ADD_SRC2_F32` (R256) -/
  | dsAddSrc2F32
  /-- `DS_ADD_SRC2_U64` (R257) -/
  | dsAddSrc2U64
  /-- `DS_SUB_SRC2_U64` (R258) -/
  | dsSubSrc2U64
  /-- `DS_RSUB_SRC2_U64` (R259) -/
  | dsRsubSrc2U64
  /-- `DS_INC_SRC2_U64` (R260) -/
  | dsIncSrc2U64
  /-- `DS_DEC_SRC2_U64` (R261) -/
  | dsDecSrc2U64
  /-- `DS_MIN_SRC2_I64` (R262) -/
  | dsMinSrc2I64
  /-- `DS_MAX_SRC2_I64` (R263) -/
  | dsMaxSrc2I64
  /-- `DS_MIN_SRC2_U64` (R264) -/
  | dsMinSrc2U64
  /-- `DS_MAX_SRC2_U64` (R265) -/
  | dsMaxSrc2U64
  /-- `DS_AND_SRC2_B64` (R266) -/
  | dsAndSrc2B64
  /-- `DS_OR_SRC2_B64` (R267) -/
  | dsOrSrc2B64
  /-- `DS_XOR_SRC2_B64` (R268) -/
  | dsXorSrc2B64
  /-- `DS_WRITE_SRC2_B64` (R269) -/
  | dsWriteSrc2B64
  /-- `DS_MIN_SRC2_F64` (R270) -/
  | dsMinSrc2F64
  /-- `DS_MAX_SRC2_F64` (R271) -/
  | dsMaxSrc2F64
  /-- `DS_WRITE_B96` (R129) -/
  | dsWriteB96
  /-- `DS_WRITE_B128` (R130) -/
  | dsWriteB128
  /-- `DS_CONDXCHG32_RTN_B128` (R229) -/
  | dsCondxchg32RtnB128
  /-- `DS_READ_B96` (R181) -/
  | dsReadB96
  /-- `DS_READ_B128` (R182) -/
  | dsReadB128
  deriving DecidableEq, Repr

/-- The operand fields of a DS instruction word (R76), all of them, whether or not the instruction uses them (R92).
`offset` is the 16-bit view; `OFFSET0` and `OFFSET1` are its halves (R78). -/
structure DsFields where
  /-- `I[15:0]` -/
  offset : BitVec 16
  /-- `I[17]` -/
  gds : Bool
  /-- `I[39:32]` -/
  addr : BitVec 8
  /-- `I[47:40]` -/
  vdata0 : BitVec 8
  /-- `I[55:48]` -/
  vdata1 : BitVec 8
  /-- `I[63:56]` -/
  vdst : BitVec 8
  deriving DecidableEq, Repr

/-- The instructions, one constructor per mnemonic of the opcode table. -/
inductive Instr where
  /-- `DS_ADD_U32` (R101) -/
  | dsAddU32 (f : DsFields)
  /-- `DS_SUB_U32` (R102) -/
  | dsSubU32 (f : DsFields)
  /-- `DS_RSUB_U32` (R103) -/
  | dsRsubU32 (f : DsFields)
  /-- `DS_INC_U32` (R104) -/
  | dsIncU32 (f : DsFields)
  /-- `DS_DEC_U32` (R105) -/
  | dsDecU32 (f : DsFields)
  /-- `DS_MIN_I32` (R106) -/
  | dsMinI32 (f : DsFields)
  /-- `DS_MAX_I32` (R107) -/
  | dsMaxI32 (f : DsFields)
  /-- `DS_MIN_U32` (R108) -/
  | dsMinU32 (f : DsFields)
  /-- `DS_MAX_U32` (R109) -/
  | dsMaxU32 (f : DsFields)
  /-- `DS_AND_B32` (R110) -/
  | dsAndB32 (f : DsFields)
  /-- `DS_OR_B32` (R111) -/
  | dsOrB32 (f : DsFields)
  /-- `DS_XOR_B32` (R112) -/
  | dsXorB32 (f : DsFields)
  /-- `DS_MSKOR_B32` (R113) -/
  | dsMskorB32 (f : DsFields)
  /-- `DS_WRITE_B32` (R121) -/
  | dsWriteB32 (f : DsFields)
  /-- `DS_WRITE2_B32` (R122) -/
  | dsWrite2B32 (f : DsFields)
  /-- `DS_WRITE2ST64_B32` (R123) -/
  | dsWrite2st64B32 (f : DsFields)
  /-- `DS_CMPST_B32` (R114) -/
  | dsCmpstB32 (f : DsFields)
  /-- `DS_CMPST_F32` (R115) -/
  | dsCmpstF32 (f : DsFields)
  /-- `DS_MIN_F32` (R116) -/
  | dsMinF32 (f : DsFields)
  /-- `DS_MAX_F32` (R117) -/
  | dsMaxF32 (f : DsFields)
  /-- `DS_NOP` (R281) -/
  | dsNop (f : DsFields)
  /-- `DS_ADD_F32` (R118) -/
  | dsAddF32 (f : DsFields)
  /-- `DS_GWS_SEMA_RELEASE_ALL` (R282) -/
  | dsGwsSemaReleaseAll (f : DsFields)
  /-- `DS_GWS_INIT` (R283) -/
  | dsGwsInit (f : DsFields)
  /-- `DS_GWS_SEMA_V` (R284) -/
  | dsGwsSemaV (f : DsFields)
  /-- `DS_GWS_SEMA_BR` (R285) -/
  | dsGwsSemaBr (f : DsFields)
  /-- `DS_GWS_SEMA_P` (R286) -/
  | dsGwsSemaP (f : DsFields)
  /-- `DS_GWS_BARRIER` (R287) -/
  | dsGwsBarrier (f : DsFields)
  /-- `DS_WRITE_B8` (R124) -/
  | dsWriteB8 (f : DsFields)
  /-- `DS_WRITE_B16` (R125) -/
  | dsWriteB16 (f : DsFields)
  /-- `DS_ADD_RTN_U32` (R141) -/
  | dsAddRtnU32 (f : DsFields)
  /-- `DS_SUB_RTN_U32` (R142) -/
  | dsSubRtnU32 (f : DsFields)
  /-- `DS_RSUB_RTN_U32` (R143) -/
  | dsRsubRtnU32 (f : DsFields)
  /-- `DS_INC_RTN_U32` (R144) -/
  | dsIncRtnU32 (f : DsFields)
  /-- `DS_DEC_RTN_U32` (R145) -/
  | dsDecRtnU32 (f : DsFields)
  /-- `DS_MIN_RTN_I32` (R146) -/
  | dsMinRtnI32 (f : DsFields)
  /-- `DS_MAX_RTN_I32` (R147) -/
  | dsMaxRtnI32 (f : DsFields)
  /-- `DS_MIN_RTN_U32` (R148) -/
  | dsMinRtnU32 (f : DsFields)
  /-- `DS_MAX_RTN_U32` (R149) -/
  | dsMaxRtnU32 (f : DsFields)
  /-- `DS_AND_RTN_B32` (R150) -/
  | dsAndRtnB32 (f : DsFields)
  /-- `DS_OR_RTN_B32` (R151) -/
  | dsOrRtnB32 (f : DsFields)
  /-- `DS_XOR_RTN_B32` (R152) -/
  | dsXorRtnB32 (f : DsFields)
  /-- `DS_MSKOR_RTN_B32` (R153) -/
  | dsMskorRtnB32 (f : DsFields)
  /-- `DS_WRXCHG_RTN_B32` (R154) -/
  | dsWrxchgRtnB32 (f : DsFields)
  /-- `DS_WRXCHG2_RTN_B32` (R155) -/
  | dsWrxchg2RtnB32 (f : DsFields)
  /-- `DS_WRXCHG2ST64_RTN_B32` (R156) -/
  | dsWrxchg2st64RtnB32 (f : DsFields)
  /-- `DS_CMPST_RTN_B32` (R157) -/
  | dsCmpstRtnB32 (f : DsFields)
  /-- `DS_CMPST_RTN_F32` (R158) -/
  | dsCmpstRtnF32 (f : DsFields)
  /-- `DS_MIN_RTN_F32` (R159) -/
  | dsMinRtnF32 (f : DsFields)
  /-- `DS_MAX_RTN_F32` (R160) -/
  | dsMaxRtnF32 (f : DsFields)
  /-- `DS_WRAP_RTN_B32` (R161) -/
  | dsWrapRtnB32 (f : DsFields)
  /-- `DS_SWIZZLE_B32` (R288) -/
  | dsSwizzleB32 (f : DsFields)
  /-- `DS_ADD_RTN_F32` (R162) -/
  | dsAddRtnF32 (f : DsFields)
  /-- `DS_READ_B32` (R171) -/
  | dsReadB32 (f : DsFields)
  /-- `DS_READ2_B32` (R172) -/
  | dsRead2B32 (f : DsFields)
  /-- `DS_READ2ST64_B32` (R173) -/
  | dsRead2st64B32 (f : DsFields)
  /-- `DS_READ_I8` (R174) -/
  | dsReadI8 (f : DsFields)
  /-- `DS_READ_U8` (R175) -/
  | dsReadU8 (f : DsFields)
  /-- `DS_READ_I16` (R176) -/
  | dsReadI16 (f : DsFields)
  /-- `DS_READ_U16` (R177) -/
  | dsReadU16 (f : DsFields)
  /-- `DS_CONSUME` (R289) -/
  | dsConsume (f : DsFields)
  /-- `DS_APPEND` (R290) -/
  | dsAppend (f : DsFields)
  /-- `DS_PERMUTE_B32` (R292) -/
  | dsPermuteB32 (f : DsFields)
  /-- `DS_ORDERED_COUNT` (R291) -/
  | dsOrderedCount (f : DsFields)
  /-- `DS_BPERMUTE_B32` (R293) -/
  | dsBpermuteB32 (f : DsFields)
  /-- `DS_ADD_U64` (R191) -/
  | dsAddU64 (f : DsFields)
  /-- `DS_SUB_U64` (R192) -/
  | dsSubU64 (f : DsFields)
  /-- `DS_RSUB_U64` (R193) -/
  | dsRsubU64 (f : DsFields)
  /-- `DS_INC_U64` (R194) -/
  | dsIncU64 (f : DsFields)
  /-- `DS_DEC_U64` (R195) -/
  | dsDecU64 (f : DsFields)
  /-- `DS_MIN_I64` (R196) -/
  | dsMinI64 (f : DsFields)
  /-- `DS_MAX_I64` (R197) -/
  | dsMaxI64 (f : DsFields)
  /-- `DS_MIN_U64` (R198) -/
  | dsMinU64 (f : DsFields)
  /-- `DS_MAX_U64` (R199) -/
  | dsMaxU64 (f : DsFields)
  /-- `DS_AND_B64` (R200) -/
  | dsAndB64 (f : DsFields)
  /-- `DS_OR_B64` (R201) -/
  | dsOrB64 (f : DsFields)
  /-- `DS_XOR_B64` (R202) -/
  | dsXorB64 (f : DsFields)
  /-- `DS_MSKOR_B64` (R203) -/
  | dsMskorB64 (f : DsFields)
  /-- `DS_WRITE_B64` (R126) -/
  | dsWriteB64 (f : DsFields)
  /-- `DS_WRITE2_B64` (R127) -/
  | dsWrite2B64 (f : DsFields)
  /-- `DS_WRITE2ST64_B64` (R128) -/
  | dsWrite2st64B64 (f : DsFields)
  /-- `DS_CMPST_B64` (R204) -/
  | dsCmpstB64 (f : DsFields)
  /-- `DS_CMPST_F64` (R205) -/
  | dsCmpstF64 (f : DsFields)
  /-- `DS_MIN_F64` (R206) -/
  | dsMinF64 (f : DsFields)
  /-- `DS_MAX_F64` (R207) -/
  | dsMaxF64 (f : DsFields)
  /-- `DS_ADD_RTN_U64` (R208) -/
  | dsAddRtnU64 (f : DsFields)
  /-- `DS_SUB_RTN_U64` (R209) -/
  | dsSubRtnU64 (f : DsFields)
  /-- `DS_RSUB_RTN_U64` (R210) -/
  | dsRsubRtnU64 (f : DsFields)
  /-- `DS_INC_RTN_U64` (R211) -/
  | dsIncRtnU64 (f : DsFields)
  /-- `DS_DEC_RTN_U64` (R212) -/
  | dsDecRtnU64 (f : DsFields)
  /-- `DS_MIN_RTN_I64` (R213) -/
  | dsMinRtnI64 (f : DsFields)
  /-- `DS_MAX_RTN_I64` (R214) -/
  | dsMaxRtnI64 (f : DsFields)
  /-- `DS_MIN_RTN_U64` (R215) -/
  | dsMinRtnU64 (f : DsFields)
  /-- `DS_MAX_RTN_U64` (R216) -/
  | dsMaxRtnU64 (f : DsFields)
  /-- `DS_AND_RTN_B64` (R217) -/
  | dsAndRtnB64 (f : DsFields)
  /-- `DS_OR_RTN_B64` (R218) -/
  | dsOrRtnB64 (f : DsFields)
  /-- `DS_XOR_RTN_B64` (R219) -/
  | dsXorRtnB64 (f : DsFields)
  /-- `DS_MSKOR_RTN_B64` (R220) -/
  | dsMskorRtnB64 (f : DsFields)
  /-- `DS_WRXCHG_RTN_B64` (R221) -/
  | dsWrxchgRtnB64 (f : DsFields)
  /-- `DS_WRXCHG2_RTN_B64` (R222) -/
  | dsWrxchg2RtnB64 (f : DsFields)
  /-- `DS_WRXCHG2ST64_RTN_B64` (R223) -/
  | dsWrxchg2st64RtnB64 (f : DsFields)
  /-- `DS_CMPST_RTN_B64` (R224) -/
  | dsCmpstRtnB64 (f : DsFields)
  /-- `DS_CMPST_RTN_F64` (R225) -/
  | dsCmpstRtnF64 (f : DsFields)
  /-- `DS_MIN_RTN_F64` (R226) -/
  | dsMinRtnF64 (f : DsFields)
  /-- `DS_MAX_RTN_F64` (R227) -/
  | dsMaxRtnF64 (f : DsFields)
  /-- `DS_READ_B64` (R178) -/
  | dsReadB64 (f : DsFields)
  /-- `DS_READ2_B64` (R179) -/
  | dsRead2B64 (f : DsFields)
  /-- `DS_READ2ST64_B64` (R180) -/
  | dsRead2st64B64 (f : DsFields)
  /-- `DS_CONDXCHG32_RTN_B64` (R228) -/
  | dsCondxchg32RtnB64 (f : DsFields)
  /-- `DS_ADD_SRC2_U32` (R241) -/
  | dsAddSrc2U32 (f : DsFields)
  /-- `DS_SUB_SRC2_U32` (R242) -/
  | dsSubSrc2U32 (f : DsFields)
  /-- `DS_RSUB_SRC2_U32` (R243) -/
  | dsRsubSrc2U32 (f : DsFields)
  /-- `DS_INC_SRC2_U32` (R244) -/
  | dsIncSrc2U32 (f : DsFields)
  /-- `DS_DEC_SRC2_U32` (R245) -/
  | dsDecSrc2U32 (f : DsFields)
  /-- `DS_MIN_SRC2_I32` (R246) -/
  | dsMinSrc2I32 (f : DsFields)
  /-- `DS_MAX_SRC2_I32` (R247) -/
  | dsMaxSrc2I32 (f : DsFields)
  /-- `DS_MIN_SRC2_U32` (R248) -/
  | dsMinSrc2U32 (f : DsFields)
  /-- `DS_MAX_SRC2_U32` (R249) -/
  | dsMaxSrc2U32 (f : DsFields)
  /-- `DS_AND_SRC2_B32` (R250) -/
  | dsAndSrc2B32 (f : DsFields)
  /-- `DS_OR_SRC2_B32` (R251) -/
  | dsOrSrc2B32 (f : DsFields)
  /-- `DS_XOR_SRC2_B32` (R252) -/
  | dsXorSrc2B32 (f : DsFields)
  /-- `DS_WRITE_SRC2_B32` (R253) -/
  | dsWriteSrc2B32 (f : DsFields)
  /-- `DS_MIN_SRC2_F32` (R254) -/
  | dsMinSrc2F32 (f : DsFields)
  /-- `DS_MAX_SRC2_F32` (R255) -/
  | dsMaxSrc2F32 (f : DsFields)
  /-- `DS_ADD_SRC2_F32` (R256) -/
  | dsAddSrc2F32 (f : DsFields)
  /-- `DS_ADD_SRC2_U64` (R257) -/
  | dsAddSrc2U64 (f : DsFields)
  /-- `DS_SUB_SRC2_U64` (R258) -/
  | dsSubSrc2U64 (f : DsFields)
  /-- `DS_RSUB_SRC2_U64` (R259) -/
  | dsRsubSrc2U64 (f : DsFields)
  /-- `DS_INC_SRC2_U64` (R260) -/
  | dsIncSrc2U64 (f : DsFields)
  /-- `DS_DEC_SRC2_U64` (R261) -/
  | dsDecSrc2U64 (f : DsFields)
  /-- `DS_MIN_SRC2_I64` (R262) -/
  | dsMinSrc2I64 (f : DsFields)
  /-- `DS_MAX_SRC2_I64` (R263) -/
  | dsMaxSrc2I64 (f : DsFields)
  /-- `DS_MIN_SRC2_U64` (R264) -/
  | dsMinSrc2U64 (f : DsFields)
  /-- `DS_MAX_SRC2_U64` (R265) -/
  | dsMaxSrc2U64 (f : DsFields)
  /-- `DS_AND_SRC2_B64` (R266) -/
  | dsAndSrc2B64 (f : DsFields)
  /-- `DS_OR_SRC2_B64` (R267) -/
  | dsOrSrc2B64 (f : DsFields)
  /-- `DS_XOR_SRC2_B64` (R268) -/
  | dsXorSrc2B64 (f : DsFields)
  /-- `DS_WRITE_SRC2_B64` (R269) -/
  | dsWriteSrc2B64 (f : DsFields)
  /-- `DS_MIN_SRC2_F64` (R270) -/
  | dsMinSrc2F64 (f : DsFields)
  /-- `DS_MAX_SRC2_F64` (R271) -/
  | dsMaxSrc2F64 (f : DsFields)
  /-- `DS_WRITE_B96` (R129) -/
  | dsWriteB96 (f : DsFields)
  /-- `DS_WRITE_B128` (R130) -/
  | dsWriteB128 (f : DsFields)
  /-- `DS_CONDXCHG32_RTN_B128` (R229) -/
  | dsCondxchg32RtnB128 (f : DsFields)
  /-- `DS_READ_B96` (R181) -/
  | dsReadB96 (f : DsFields)
  /-- `DS_READ_B128` (R182) -/
  | dsReadB128 (f : DsFields)
  deriving DecidableEq, Repr

/-- The instruction a mnemonic and field values make. -/
def Mnemonic.instr (m : Mnemonic) (f : DsFields) : Instr :=
  match m with
  | .dsAddU32 => .dsAddU32 f
  | .dsSubU32 => .dsSubU32 f
  | .dsRsubU32 => .dsRsubU32 f
  | .dsIncU32 => .dsIncU32 f
  | .dsDecU32 => .dsDecU32 f
  | .dsMinI32 => .dsMinI32 f
  | .dsMaxI32 => .dsMaxI32 f
  | .dsMinU32 => .dsMinU32 f
  | .dsMaxU32 => .dsMaxU32 f
  | .dsAndB32 => .dsAndB32 f
  | .dsOrB32 => .dsOrB32 f
  | .dsXorB32 => .dsXorB32 f
  | .dsMskorB32 => .dsMskorB32 f
  | .dsWriteB32 => .dsWriteB32 f
  | .dsWrite2B32 => .dsWrite2B32 f
  | .dsWrite2st64B32 => .dsWrite2st64B32 f
  | .dsCmpstB32 => .dsCmpstB32 f
  | .dsCmpstF32 => .dsCmpstF32 f
  | .dsMinF32 => .dsMinF32 f
  | .dsMaxF32 => .dsMaxF32 f
  | .dsNop => .dsNop f
  | .dsAddF32 => .dsAddF32 f
  | .dsGwsSemaReleaseAll => .dsGwsSemaReleaseAll f
  | .dsGwsInit => .dsGwsInit f
  | .dsGwsSemaV => .dsGwsSemaV f
  | .dsGwsSemaBr => .dsGwsSemaBr f
  | .dsGwsSemaP => .dsGwsSemaP f
  | .dsGwsBarrier => .dsGwsBarrier f
  | .dsWriteB8 => .dsWriteB8 f
  | .dsWriteB16 => .dsWriteB16 f
  | .dsAddRtnU32 => .dsAddRtnU32 f
  | .dsSubRtnU32 => .dsSubRtnU32 f
  | .dsRsubRtnU32 => .dsRsubRtnU32 f
  | .dsIncRtnU32 => .dsIncRtnU32 f
  | .dsDecRtnU32 => .dsDecRtnU32 f
  | .dsMinRtnI32 => .dsMinRtnI32 f
  | .dsMaxRtnI32 => .dsMaxRtnI32 f
  | .dsMinRtnU32 => .dsMinRtnU32 f
  | .dsMaxRtnU32 => .dsMaxRtnU32 f
  | .dsAndRtnB32 => .dsAndRtnB32 f
  | .dsOrRtnB32 => .dsOrRtnB32 f
  | .dsXorRtnB32 => .dsXorRtnB32 f
  | .dsMskorRtnB32 => .dsMskorRtnB32 f
  | .dsWrxchgRtnB32 => .dsWrxchgRtnB32 f
  | .dsWrxchg2RtnB32 => .dsWrxchg2RtnB32 f
  | .dsWrxchg2st64RtnB32 => .dsWrxchg2st64RtnB32 f
  | .dsCmpstRtnB32 => .dsCmpstRtnB32 f
  | .dsCmpstRtnF32 => .dsCmpstRtnF32 f
  | .dsMinRtnF32 => .dsMinRtnF32 f
  | .dsMaxRtnF32 => .dsMaxRtnF32 f
  | .dsWrapRtnB32 => .dsWrapRtnB32 f
  | .dsSwizzleB32 => .dsSwizzleB32 f
  | .dsAddRtnF32 => .dsAddRtnF32 f
  | .dsReadB32 => .dsReadB32 f
  | .dsRead2B32 => .dsRead2B32 f
  | .dsRead2st64B32 => .dsRead2st64B32 f
  | .dsReadI8 => .dsReadI8 f
  | .dsReadU8 => .dsReadU8 f
  | .dsReadI16 => .dsReadI16 f
  | .dsReadU16 => .dsReadU16 f
  | .dsConsume => .dsConsume f
  | .dsAppend => .dsAppend f
  | .dsPermuteB32 => .dsPermuteB32 f
  | .dsOrderedCount => .dsOrderedCount f
  | .dsBpermuteB32 => .dsBpermuteB32 f
  | .dsAddU64 => .dsAddU64 f
  | .dsSubU64 => .dsSubU64 f
  | .dsRsubU64 => .dsRsubU64 f
  | .dsIncU64 => .dsIncU64 f
  | .dsDecU64 => .dsDecU64 f
  | .dsMinI64 => .dsMinI64 f
  | .dsMaxI64 => .dsMaxI64 f
  | .dsMinU64 => .dsMinU64 f
  | .dsMaxU64 => .dsMaxU64 f
  | .dsAndB64 => .dsAndB64 f
  | .dsOrB64 => .dsOrB64 f
  | .dsXorB64 => .dsXorB64 f
  | .dsMskorB64 => .dsMskorB64 f
  | .dsWriteB64 => .dsWriteB64 f
  | .dsWrite2B64 => .dsWrite2B64 f
  | .dsWrite2st64B64 => .dsWrite2st64B64 f
  | .dsCmpstB64 => .dsCmpstB64 f
  | .dsCmpstF64 => .dsCmpstF64 f
  | .dsMinF64 => .dsMinF64 f
  | .dsMaxF64 => .dsMaxF64 f
  | .dsAddRtnU64 => .dsAddRtnU64 f
  | .dsSubRtnU64 => .dsSubRtnU64 f
  | .dsRsubRtnU64 => .dsRsubRtnU64 f
  | .dsIncRtnU64 => .dsIncRtnU64 f
  | .dsDecRtnU64 => .dsDecRtnU64 f
  | .dsMinRtnI64 => .dsMinRtnI64 f
  | .dsMaxRtnI64 => .dsMaxRtnI64 f
  | .dsMinRtnU64 => .dsMinRtnU64 f
  | .dsMaxRtnU64 => .dsMaxRtnU64 f
  | .dsAndRtnB64 => .dsAndRtnB64 f
  | .dsOrRtnB64 => .dsOrRtnB64 f
  | .dsXorRtnB64 => .dsXorRtnB64 f
  | .dsMskorRtnB64 => .dsMskorRtnB64 f
  | .dsWrxchgRtnB64 => .dsWrxchgRtnB64 f
  | .dsWrxchg2RtnB64 => .dsWrxchg2RtnB64 f
  | .dsWrxchg2st64RtnB64 => .dsWrxchg2st64RtnB64 f
  | .dsCmpstRtnB64 => .dsCmpstRtnB64 f
  | .dsCmpstRtnF64 => .dsCmpstRtnF64 f
  | .dsMinRtnF64 => .dsMinRtnF64 f
  | .dsMaxRtnF64 => .dsMaxRtnF64 f
  | .dsReadB64 => .dsReadB64 f
  | .dsRead2B64 => .dsRead2B64 f
  | .dsRead2st64B64 => .dsRead2st64B64 f
  | .dsCondxchg32RtnB64 => .dsCondxchg32RtnB64 f
  | .dsAddSrc2U32 => .dsAddSrc2U32 f
  | .dsSubSrc2U32 => .dsSubSrc2U32 f
  | .dsRsubSrc2U32 => .dsRsubSrc2U32 f
  | .dsIncSrc2U32 => .dsIncSrc2U32 f
  | .dsDecSrc2U32 => .dsDecSrc2U32 f
  | .dsMinSrc2I32 => .dsMinSrc2I32 f
  | .dsMaxSrc2I32 => .dsMaxSrc2I32 f
  | .dsMinSrc2U32 => .dsMinSrc2U32 f
  | .dsMaxSrc2U32 => .dsMaxSrc2U32 f
  | .dsAndSrc2B32 => .dsAndSrc2B32 f
  | .dsOrSrc2B32 => .dsOrSrc2B32 f
  | .dsXorSrc2B32 => .dsXorSrc2B32 f
  | .dsWriteSrc2B32 => .dsWriteSrc2B32 f
  | .dsMinSrc2F32 => .dsMinSrc2F32 f
  | .dsMaxSrc2F32 => .dsMaxSrc2F32 f
  | .dsAddSrc2F32 => .dsAddSrc2F32 f
  | .dsAddSrc2U64 => .dsAddSrc2U64 f
  | .dsSubSrc2U64 => .dsSubSrc2U64 f
  | .dsRsubSrc2U64 => .dsRsubSrc2U64 f
  | .dsIncSrc2U64 => .dsIncSrc2U64 f
  | .dsDecSrc2U64 => .dsDecSrc2U64 f
  | .dsMinSrc2I64 => .dsMinSrc2I64 f
  | .dsMaxSrc2I64 => .dsMaxSrc2I64 f
  | .dsMinSrc2U64 => .dsMinSrc2U64 f
  | .dsMaxSrc2U64 => .dsMaxSrc2U64 f
  | .dsAndSrc2B64 => .dsAndSrc2B64 f
  | .dsOrSrc2B64 => .dsOrSrc2B64 f
  | .dsXorSrc2B64 => .dsXorSrc2B64 f
  | .dsWriteSrc2B64 => .dsWriteSrc2B64 f
  | .dsMinSrc2F64 => .dsMinSrc2F64 f
  | .dsMaxSrc2F64 => .dsMaxSrc2F64 f
  | .dsWriteB96 => .dsWriteB96 f
  | .dsWriteB128 => .dsWriteB128 f
  | .dsCondxchg32RtnB128 => .dsCondxchg32RtnB128 f
  | .dsReadB96 => .dsReadB96 f
  | .dsReadB128 => .dsReadB128 f

/-- The mnemonic of an instruction. -/
def Instr.mnemonic (i : Instr) : Mnemonic :=
  match i with
  | .dsAddU32 _ => .dsAddU32
  | .dsSubU32 _ => .dsSubU32
  | .dsRsubU32 _ => .dsRsubU32
  | .dsIncU32 _ => .dsIncU32
  | .dsDecU32 _ => .dsDecU32
  | .dsMinI32 _ => .dsMinI32
  | .dsMaxI32 _ => .dsMaxI32
  | .dsMinU32 _ => .dsMinU32
  | .dsMaxU32 _ => .dsMaxU32
  | .dsAndB32 _ => .dsAndB32
  | .dsOrB32 _ => .dsOrB32
  | .dsXorB32 _ => .dsXorB32
  | .dsMskorB32 _ => .dsMskorB32
  | .dsWriteB32 _ => .dsWriteB32
  | .dsWrite2B32 _ => .dsWrite2B32
  | .dsWrite2st64B32 _ => .dsWrite2st64B32
  | .dsCmpstB32 _ => .dsCmpstB32
  | .dsCmpstF32 _ => .dsCmpstF32
  | .dsMinF32 _ => .dsMinF32
  | .dsMaxF32 _ => .dsMaxF32
  | .dsNop _ => .dsNop
  | .dsAddF32 _ => .dsAddF32
  | .dsGwsSemaReleaseAll _ => .dsGwsSemaReleaseAll
  | .dsGwsInit _ => .dsGwsInit
  | .dsGwsSemaV _ => .dsGwsSemaV
  | .dsGwsSemaBr _ => .dsGwsSemaBr
  | .dsGwsSemaP _ => .dsGwsSemaP
  | .dsGwsBarrier _ => .dsGwsBarrier
  | .dsWriteB8 _ => .dsWriteB8
  | .dsWriteB16 _ => .dsWriteB16
  | .dsAddRtnU32 _ => .dsAddRtnU32
  | .dsSubRtnU32 _ => .dsSubRtnU32
  | .dsRsubRtnU32 _ => .dsRsubRtnU32
  | .dsIncRtnU32 _ => .dsIncRtnU32
  | .dsDecRtnU32 _ => .dsDecRtnU32
  | .dsMinRtnI32 _ => .dsMinRtnI32
  | .dsMaxRtnI32 _ => .dsMaxRtnI32
  | .dsMinRtnU32 _ => .dsMinRtnU32
  | .dsMaxRtnU32 _ => .dsMaxRtnU32
  | .dsAndRtnB32 _ => .dsAndRtnB32
  | .dsOrRtnB32 _ => .dsOrRtnB32
  | .dsXorRtnB32 _ => .dsXorRtnB32
  | .dsMskorRtnB32 _ => .dsMskorRtnB32
  | .dsWrxchgRtnB32 _ => .dsWrxchgRtnB32
  | .dsWrxchg2RtnB32 _ => .dsWrxchg2RtnB32
  | .dsWrxchg2st64RtnB32 _ => .dsWrxchg2st64RtnB32
  | .dsCmpstRtnB32 _ => .dsCmpstRtnB32
  | .dsCmpstRtnF32 _ => .dsCmpstRtnF32
  | .dsMinRtnF32 _ => .dsMinRtnF32
  | .dsMaxRtnF32 _ => .dsMaxRtnF32
  | .dsWrapRtnB32 _ => .dsWrapRtnB32
  | .dsSwizzleB32 _ => .dsSwizzleB32
  | .dsAddRtnF32 _ => .dsAddRtnF32
  | .dsReadB32 _ => .dsReadB32
  | .dsRead2B32 _ => .dsRead2B32
  | .dsRead2st64B32 _ => .dsRead2st64B32
  | .dsReadI8 _ => .dsReadI8
  | .dsReadU8 _ => .dsReadU8
  | .dsReadI16 _ => .dsReadI16
  | .dsReadU16 _ => .dsReadU16
  | .dsConsume _ => .dsConsume
  | .dsAppend _ => .dsAppend
  | .dsPermuteB32 _ => .dsPermuteB32
  | .dsOrderedCount _ => .dsOrderedCount
  | .dsBpermuteB32 _ => .dsBpermuteB32
  | .dsAddU64 _ => .dsAddU64
  | .dsSubU64 _ => .dsSubU64
  | .dsRsubU64 _ => .dsRsubU64
  | .dsIncU64 _ => .dsIncU64
  | .dsDecU64 _ => .dsDecU64
  | .dsMinI64 _ => .dsMinI64
  | .dsMaxI64 _ => .dsMaxI64
  | .dsMinU64 _ => .dsMinU64
  | .dsMaxU64 _ => .dsMaxU64
  | .dsAndB64 _ => .dsAndB64
  | .dsOrB64 _ => .dsOrB64
  | .dsXorB64 _ => .dsXorB64
  | .dsMskorB64 _ => .dsMskorB64
  | .dsWriteB64 _ => .dsWriteB64
  | .dsWrite2B64 _ => .dsWrite2B64
  | .dsWrite2st64B64 _ => .dsWrite2st64B64
  | .dsCmpstB64 _ => .dsCmpstB64
  | .dsCmpstF64 _ => .dsCmpstF64
  | .dsMinF64 _ => .dsMinF64
  | .dsMaxF64 _ => .dsMaxF64
  | .dsAddRtnU64 _ => .dsAddRtnU64
  | .dsSubRtnU64 _ => .dsSubRtnU64
  | .dsRsubRtnU64 _ => .dsRsubRtnU64
  | .dsIncRtnU64 _ => .dsIncRtnU64
  | .dsDecRtnU64 _ => .dsDecRtnU64
  | .dsMinRtnI64 _ => .dsMinRtnI64
  | .dsMaxRtnI64 _ => .dsMaxRtnI64
  | .dsMinRtnU64 _ => .dsMinRtnU64
  | .dsMaxRtnU64 _ => .dsMaxRtnU64
  | .dsAndRtnB64 _ => .dsAndRtnB64
  | .dsOrRtnB64 _ => .dsOrRtnB64
  | .dsXorRtnB64 _ => .dsXorRtnB64
  | .dsMskorRtnB64 _ => .dsMskorRtnB64
  | .dsWrxchgRtnB64 _ => .dsWrxchgRtnB64
  | .dsWrxchg2RtnB64 _ => .dsWrxchg2RtnB64
  | .dsWrxchg2st64RtnB64 _ => .dsWrxchg2st64RtnB64
  | .dsCmpstRtnB64 _ => .dsCmpstRtnB64
  | .dsCmpstRtnF64 _ => .dsCmpstRtnF64
  | .dsMinRtnF64 _ => .dsMinRtnF64
  | .dsMaxRtnF64 _ => .dsMaxRtnF64
  | .dsReadB64 _ => .dsReadB64
  | .dsRead2B64 _ => .dsRead2B64
  | .dsRead2st64B64 _ => .dsRead2st64B64
  | .dsCondxchg32RtnB64 _ => .dsCondxchg32RtnB64
  | .dsAddSrc2U32 _ => .dsAddSrc2U32
  | .dsSubSrc2U32 _ => .dsSubSrc2U32
  | .dsRsubSrc2U32 _ => .dsRsubSrc2U32
  | .dsIncSrc2U32 _ => .dsIncSrc2U32
  | .dsDecSrc2U32 _ => .dsDecSrc2U32
  | .dsMinSrc2I32 _ => .dsMinSrc2I32
  | .dsMaxSrc2I32 _ => .dsMaxSrc2I32
  | .dsMinSrc2U32 _ => .dsMinSrc2U32
  | .dsMaxSrc2U32 _ => .dsMaxSrc2U32
  | .dsAndSrc2B32 _ => .dsAndSrc2B32
  | .dsOrSrc2B32 _ => .dsOrSrc2B32
  | .dsXorSrc2B32 _ => .dsXorSrc2B32
  | .dsWriteSrc2B32 _ => .dsWriteSrc2B32
  | .dsMinSrc2F32 _ => .dsMinSrc2F32
  | .dsMaxSrc2F32 _ => .dsMaxSrc2F32
  | .dsAddSrc2F32 _ => .dsAddSrc2F32
  | .dsAddSrc2U64 _ => .dsAddSrc2U64
  | .dsSubSrc2U64 _ => .dsSubSrc2U64
  | .dsRsubSrc2U64 _ => .dsRsubSrc2U64
  | .dsIncSrc2U64 _ => .dsIncSrc2U64
  | .dsDecSrc2U64 _ => .dsDecSrc2U64
  | .dsMinSrc2I64 _ => .dsMinSrc2I64
  | .dsMaxSrc2I64 _ => .dsMaxSrc2I64
  | .dsMinSrc2U64 _ => .dsMinSrc2U64
  | .dsMaxSrc2U64 _ => .dsMaxSrc2U64
  | .dsAndSrc2B64 _ => .dsAndSrc2B64
  | .dsOrSrc2B64 _ => .dsOrSrc2B64
  | .dsXorSrc2B64 _ => .dsXorSrc2B64
  | .dsWriteSrc2B64 _ => .dsWriteSrc2B64
  | .dsMinSrc2F64 _ => .dsMinSrc2F64
  | .dsMaxSrc2F64 _ => .dsMaxSrc2F64
  | .dsWriteB96 _ => .dsWriteB96
  | .dsWriteB128 _ => .dsWriteB128
  | .dsCondxchg32RtnB128 _ => .dsCondxchg32RtnB128
  | .dsReadB96 _ => .dsReadB96
  | .dsReadB128 _ => .dsReadB128

/-- The field values of an instruction. -/
def Instr.fields (i : Instr) : DsFields :=
  match i with
  | .dsAddU32 f => f
  | .dsSubU32 f => f
  | .dsRsubU32 f => f
  | .dsIncU32 f => f
  | .dsDecU32 f => f
  | .dsMinI32 f => f
  | .dsMaxI32 f => f
  | .dsMinU32 f => f
  | .dsMaxU32 f => f
  | .dsAndB32 f => f
  | .dsOrB32 f => f
  | .dsXorB32 f => f
  | .dsMskorB32 f => f
  | .dsWriteB32 f => f
  | .dsWrite2B32 f => f
  | .dsWrite2st64B32 f => f
  | .dsCmpstB32 f => f
  | .dsCmpstF32 f => f
  | .dsMinF32 f => f
  | .dsMaxF32 f => f
  | .dsNop f => f
  | .dsAddF32 f => f
  | .dsGwsSemaReleaseAll f => f
  | .dsGwsInit f => f
  | .dsGwsSemaV f => f
  | .dsGwsSemaBr f => f
  | .dsGwsSemaP f => f
  | .dsGwsBarrier f => f
  | .dsWriteB8 f => f
  | .dsWriteB16 f => f
  | .dsAddRtnU32 f => f
  | .dsSubRtnU32 f => f
  | .dsRsubRtnU32 f => f
  | .dsIncRtnU32 f => f
  | .dsDecRtnU32 f => f
  | .dsMinRtnI32 f => f
  | .dsMaxRtnI32 f => f
  | .dsMinRtnU32 f => f
  | .dsMaxRtnU32 f => f
  | .dsAndRtnB32 f => f
  | .dsOrRtnB32 f => f
  | .dsXorRtnB32 f => f
  | .dsMskorRtnB32 f => f
  | .dsWrxchgRtnB32 f => f
  | .dsWrxchg2RtnB32 f => f
  | .dsWrxchg2st64RtnB32 f => f
  | .dsCmpstRtnB32 f => f
  | .dsCmpstRtnF32 f => f
  | .dsMinRtnF32 f => f
  | .dsMaxRtnF32 f => f
  | .dsWrapRtnB32 f => f
  | .dsSwizzleB32 f => f
  | .dsAddRtnF32 f => f
  | .dsReadB32 f => f
  | .dsRead2B32 f => f
  | .dsRead2st64B32 f => f
  | .dsReadI8 f => f
  | .dsReadU8 f => f
  | .dsReadI16 f => f
  | .dsReadU16 f => f
  | .dsConsume f => f
  | .dsAppend f => f
  | .dsPermuteB32 f => f
  | .dsOrderedCount f => f
  | .dsBpermuteB32 f => f
  | .dsAddU64 f => f
  | .dsSubU64 f => f
  | .dsRsubU64 f => f
  | .dsIncU64 f => f
  | .dsDecU64 f => f
  | .dsMinI64 f => f
  | .dsMaxI64 f => f
  | .dsMinU64 f => f
  | .dsMaxU64 f => f
  | .dsAndB64 f => f
  | .dsOrB64 f => f
  | .dsXorB64 f => f
  | .dsMskorB64 f => f
  | .dsWriteB64 f => f
  | .dsWrite2B64 f => f
  | .dsWrite2st64B64 f => f
  | .dsCmpstB64 f => f
  | .dsCmpstF64 f => f
  | .dsMinF64 f => f
  | .dsMaxF64 f => f
  | .dsAddRtnU64 f => f
  | .dsSubRtnU64 f => f
  | .dsRsubRtnU64 f => f
  | .dsIncRtnU64 f => f
  | .dsDecRtnU64 f => f
  | .dsMinRtnI64 f => f
  | .dsMaxRtnI64 f => f
  | .dsMinRtnU64 f => f
  | .dsMaxRtnU64 f => f
  | .dsAndRtnB64 f => f
  | .dsOrRtnB64 f => f
  | .dsXorRtnB64 f => f
  | .dsMskorRtnB64 f => f
  | .dsWrxchgRtnB64 f => f
  | .dsWrxchg2RtnB64 f => f
  | .dsWrxchg2st64RtnB64 f => f
  | .dsCmpstRtnB64 f => f
  | .dsCmpstRtnF64 f => f
  | .dsMinRtnF64 f => f
  | .dsMaxRtnF64 f => f
  | .dsReadB64 f => f
  | .dsRead2B64 f => f
  | .dsRead2st64B64 f => f
  | .dsCondxchg32RtnB64 f => f
  | .dsAddSrc2U32 f => f
  | .dsSubSrc2U32 f => f
  | .dsRsubSrc2U32 f => f
  | .dsIncSrc2U32 f => f
  | .dsDecSrc2U32 f => f
  | .dsMinSrc2I32 f => f
  | .dsMaxSrc2I32 f => f
  | .dsMinSrc2U32 f => f
  | .dsMaxSrc2U32 f => f
  | .dsAndSrc2B32 f => f
  | .dsOrSrc2B32 f => f
  | .dsXorSrc2B32 f => f
  | .dsWriteSrc2B32 f => f
  | .dsMinSrc2F32 f => f
  | .dsMaxSrc2F32 f => f
  | .dsAddSrc2F32 f => f
  | .dsAddSrc2U64 f => f
  | .dsSubSrc2U64 f => f
  | .dsRsubSrc2U64 f => f
  | .dsIncSrc2U64 f => f
  | .dsDecSrc2U64 f => f
  | .dsMinSrc2I64 f => f
  | .dsMaxSrc2I64 f => f
  | .dsMinSrc2U64 f => f
  | .dsMaxSrc2U64 f => f
  | .dsAndSrc2B64 f => f
  | .dsOrSrc2B64 f => f
  | .dsXorSrc2B64 f => f
  | .dsWriteSrc2B64 f => f
  | .dsMinSrc2F64 f => f
  | .dsMaxSrc2F64 f => f
  | .dsWriteB96 f => f
  | .dsWriteB128 f => f
  | .dsCondxchg32RtnB128 f => f
  | .dsReadB96 f => f
  | .dsReadB128 f => f

/-- The spelling of a mnemonic in the opcode list (R81, R91, R93). -/
def Mnemonic.name (m : Mnemonic) : String :=
  match m with
  | .dsAddU32 => "DS_ADD_U32"
  | .dsSubU32 => "DS_SUB_U32"
  | .dsRsubU32 => "DS_RSUB_U32"
  | .dsIncU32 => "DS_INC_U32"
  | .dsDecU32 => "DS_DEC_U32"
  | .dsMinI32 => "DS_MIN_I32"
  | .dsMaxI32 => "DS_MAX_I32"
  | .dsMinU32 => "DS_MIN_U32"
  | .dsMaxU32 => "DS_MAX_U32"
  | .dsAndB32 => "DS_AND_B32"
  | .dsOrB32 => "DS_OR_B32"
  | .dsXorB32 => "DS_XOR_B32"
  | .dsMskorB32 => "DS_MSKOR_B32"
  | .dsWriteB32 => "DS_WRITE_B32"
  | .dsWrite2B32 => "DS_WRITE2_B32"
  | .dsWrite2st64B32 => "DS_WRITE2ST64_B32"
  | .dsCmpstB32 => "DS_CMPST_B32"
  | .dsCmpstF32 => "DS_CMPST_F32"
  | .dsMinF32 => "DS_MIN_F32"
  | .dsMaxF32 => "DS_MAX_F32"
  | .dsNop => "DS_NOP"
  | .dsAddF32 => "DS_ADD_F32"
  | .dsGwsSemaReleaseAll => "DS_GWS_SEMA_RELEASE_ALL"
  | .dsGwsInit => "DS_GWS_INIT"
  | .dsGwsSemaV => "DS_GWS_SEMA_V"
  | .dsGwsSemaBr => "DS_GWS_SEMA_BR"
  | .dsGwsSemaP => "DS_GWS_SEMA_P"
  | .dsGwsBarrier => "DS_GWS_BARRIER"
  | .dsWriteB8 => "DS_WRITE_B8"
  | .dsWriteB16 => "DS_WRITE_B16"
  | .dsAddRtnU32 => "DS_ADD_RTN_U32"
  | .dsSubRtnU32 => "DS_SUB_RTN_U32"
  | .dsRsubRtnU32 => "DS_RSUB_RTN_U32"
  | .dsIncRtnU32 => "DS_INC_RTN_U32"
  | .dsDecRtnU32 => "DS_DEC_RTN_U32"
  | .dsMinRtnI32 => "DS_MIN_RTN_I32"
  | .dsMaxRtnI32 => "DS_MAX_RTN_I32"
  | .dsMinRtnU32 => "DS_MIN_RTN_U32"
  | .dsMaxRtnU32 => "DS_MAX_RTN_U32"
  | .dsAndRtnB32 => "DS_AND_RTN_B32"
  | .dsOrRtnB32 => "DS_OR_RTN_B32"
  | .dsXorRtnB32 => "DS_XOR_RTN_B32"
  | .dsMskorRtnB32 => "DS_MSKOR_RTN_B32"
  | .dsWrxchgRtnB32 => "DS_WRXCHG_RTN_B32"
  | .dsWrxchg2RtnB32 => "DS_WRXCHG2_RTN_B32"
  | .dsWrxchg2st64RtnB32 => "DS_WRXCHG2ST64_RTN_B32"
  | .dsCmpstRtnB32 => "DS_CMPST_RTN_B32"
  | .dsCmpstRtnF32 => "DS_CMPST_RTN_F32"
  | .dsMinRtnF32 => "DS_MIN_RTN_F32"
  | .dsMaxRtnF32 => "DS_MAX_RTN_F32"
  | .dsWrapRtnB32 => "DS_WRAP_RTN_B32"
  | .dsSwizzleB32 => "DS_SWIZZLE_B32"
  | .dsAddRtnF32 => "DS_ADD_RTN_F32"
  | .dsReadB32 => "DS_READ_B32"
  | .dsRead2B32 => "DS_READ2_B32"
  | .dsRead2st64B32 => "DS_READ2ST64_B32"
  | .dsReadI8 => "DS_READ_I8"
  | .dsReadU8 => "DS_READ_U8"
  | .dsReadI16 => "DS_READ_I16"
  | .dsReadU16 => "DS_READ_U16"
  | .dsConsume => "DS_CONSUME"
  | .dsAppend => "DS_APPEND"
  | .dsPermuteB32 => "DS_PERMUTE_B32"
  | .dsOrderedCount => "DS_ORDERED_COUNT"
  | .dsBpermuteB32 => "DS_BPERMUTE_B32"
  | .dsAddU64 => "DS_ADD_U64"
  | .dsSubU64 => "DS_SUB_U64"
  | .dsRsubU64 => "DS_RSUB_U64"
  | .dsIncU64 => "DS_INC_U64"
  | .dsDecU64 => "DS_DEC_U64"
  | .dsMinI64 => "DS_MIN_I64"
  | .dsMaxI64 => "DS_MAX_I64"
  | .dsMinU64 => "DS_MIN_U64"
  | .dsMaxU64 => "DS_MAX_U64"
  | .dsAndB64 => "DS_AND_B64"
  | .dsOrB64 => "DS_OR_B64"
  | .dsXorB64 => "DS_XOR_B64"
  | .dsMskorB64 => "DS_MSKOR_B64"
  | .dsWriteB64 => "DS_WRITE_B64"
  | .dsWrite2B64 => "DS_WRITE2_B64"
  | .dsWrite2st64B64 => "DS_WRITE2ST64_B64"
  | .dsCmpstB64 => "DS_CMPST_B64"
  | .dsCmpstF64 => "DS_CMPST_F64"
  | .dsMinF64 => "DS_MIN_F64"
  | .dsMaxF64 => "DS_MAX_F64"
  | .dsAddRtnU64 => "DS_ADD_RTN_U64"
  | .dsSubRtnU64 => "DS_SUB_RTN_U64"
  | .dsRsubRtnU64 => "DS_RSUB_RTN_U64"
  | .dsIncRtnU64 => "DS_INC_RTN_U64"
  | .dsDecRtnU64 => "DS_DEC_RTN_U64"
  | .dsMinRtnI64 => "DS_MIN_RTN_I64"
  | .dsMaxRtnI64 => "DS_MAX_RTN_I64"
  | .dsMinRtnU64 => "DS_MIN_RTN_U64"
  | .dsMaxRtnU64 => "DS_MAX_RTN_U64"
  | .dsAndRtnB64 => "DS_AND_RTN_B64"
  | .dsOrRtnB64 => "DS_OR_RTN_B64"
  | .dsXorRtnB64 => "DS_XOR_RTN_B64"
  | .dsMskorRtnB64 => "DS_MSKOR_RTN_B64"
  | .dsWrxchgRtnB64 => "DS_WRXCHG_RTN_B64"
  | .dsWrxchg2RtnB64 => "DS_WRXCHG2_RTN_B64"
  | .dsWrxchg2st64RtnB64 => "DS_WRXCHG2ST64_RTN_B64"
  | .dsCmpstRtnB64 => "DS_CMPST_RTN_B64"
  | .dsCmpstRtnF64 => "DS_CMPST_RTN_F64"
  | .dsMinRtnF64 => "DS_MIN_RTN_F64"
  | .dsMaxRtnF64 => "DS_MAX_RTN_F64"
  | .dsReadB64 => "DS_READ_B64"
  | .dsRead2B64 => "DS_READ2_B64"
  | .dsRead2st64B64 => "DS_READ2ST64_B64"
  | .dsCondxchg32RtnB64 => "DS_CONDXCHG32_RTN_B64"
  | .dsAddSrc2U32 => "DS_ADD_SRC2_U32"
  | .dsSubSrc2U32 => "DS_SUB_SRC2_U32"
  | .dsRsubSrc2U32 => "DS_RSUB_SRC2_U32"
  | .dsIncSrc2U32 => "DS_INC_SRC2_U32"
  | .dsDecSrc2U32 => "DS_DEC_SRC2_U32"
  | .dsMinSrc2I32 => "DS_MIN_SRC2_I32"
  | .dsMaxSrc2I32 => "DS_MAX_SRC2_I32"
  | .dsMinSrc2U32 => "DS_MIN_SRC2_U32"
  | .dsMaxSrc2U32 => "DS_MAX_SRC2_U32"
  | .dsAndSrc2B32 => "DS_AND_SRC2_B32"
  | .dsOrSrc2B32 => "DS_OR_SRC2_B32"
  | .dsXorSrc2B32 => "DS_XOR_SRC2_B32"
  | .dsWriteSrc2B32 => "DS_WRITE_SRC2_B32"
  | .dsMinSrc2F32 => "DS_MIN_SRC2_F32"
  | .dsMaxSrc2F32 => "DS_MAX_SRC2_F32"
  | .dsAddSrc2F32 => "DS_ADD_SRC2_F32"
  | .dsAddSrc2U64 => "DS_ADD_SRC2_U64"
  | .dsSubSrc2U64 => "DS_SUB_SRC2_U64"
  | .dsRsubSrc2U64 => "DS_RSUB_SRC2_U64"
  | .dsIncSrc2U64 => "DS_INC_SRC2_U64"
  | .dsDecSrc2U64 => "DS_DEC_SRC2_U64"
  | .dsMinSrc2I64 => "DS_MIN_SRC2_I64"
  | .dsMaxSrc2I64 => "DS_MAX_SRC2_I64"
  | .dsMinSrc2U64 => "DS_MIN_SRC2_U64"
  | .dsMaxSrc2U64 => "DS_MAX_SRC2_U64"
  | .dsAndSrc2B64 => "DS_AND_SRC2_B64"
  | .dsOrSrc2B64 => "DS_OR_SRC2_B64"
  | .dsXorSrc2B64 => "DS_XOR_SRC2_B64"
  | .dsWriteSrc2B64 => "DS_WRITE_SRC2_B64"
  | .dsMinSrc2F64 => "DS_MIN_SRC2_F64"
  | .dsMaxSrc2F64 => "DS_MAX_SRC2_F64"
  | .dsWriteB96 => "DS_WRITE_B96"
  | .dsWriteB128 => "DS_WRITE_B128"
  | .dsCondxchg32RtnB128 => "DS_CONDXCHG32_RTN_B128"
  | .dsReadB96 => "DS_READ_B96"
  | .dsReadB128 => "DS_READ_B128"

/-- Why a fetched word is no instruction this spec can name (R300, R303). -/
inductive IllegalReason where
  /-- `I[31:26]` is not `0b110110` (R77) -/
  | notDs
  /-- the opcode is not assigned on the configured `ARCH` (R83) -/
  | unassignedOpcode
  /-- bit 16 is 1 (R79) -/
  | bit16
  deriving DecidableEq, Repr

/-- What the decoder answers on any 64-bit word (R92). -/
inductive Decoded where
  /-- a DS term -/
  | ds (i : Instr)
  /-- a word of the DS class that the decoder rejects, with the reason -/
  | illegal (reason : IllegalReason)
  /-- a word outside the DS encoding; if executed it ends with `IllegalEncoding(not_ds)` (R303) -/
  | notDs
  deriving DecidableEq, Repr

/-- The operand classes of R80. -/
inductive OperandClass where
  /-- `A_D0` -/
  | aD0
  /-- `A_D0_D1` -/
  | aD0D1
  /-- `A_D0_D1_2OFF` -/
  | aD0D1TwoOff
  /-- `DST_A` -/
  | dstA
  /-- `DST_A_D0` -/
  | dstAD0
  /-- `DST_A_D0_D1` -/
  | dstAD0D1
  /-- `DST_A_D0_D1_2OFF` -/
  | dstAD0D1TwoOff
  /-- `DST_A_2OFF` -/
  | dstATwoOff
  /-- `A_ONLY` -/
  | aOnly
  /-- `DST_ONLY` -/
  | dstOnly
  /-- `NONE` -/
  | noOperands
  /-- `GWS` -/
  | gws
  deriving DecidableEq, Repr

/-- The operand class of each mnemonic (R80, R81). -/
def Mnemonic.operandClass (m : Mnemonic) : OperandClass :=
  match m with
  | .dsAddU32 | .dsSubU32 | .dsRsubU32 | .dsIncU32 | .dsDecU32 | .dsMinI32
  | .dsMaxI32 | .dsMinU32 | .dsMaxU32 | .dsAndB32 | .dsOrB32 | .dsXorB32
  | .dsWriteB32 | .dsMinF32 | .dsMaxF32 | .dsAddF32 | .dsWriteB8 | .dsWriteB16
  | .dsAddU64 | .dsSubU64 | .dsRsubU64 | .dsIncU64 | .dsDecU64 | .dsMinI64
  | .dsMaxI64 | .dsMinU64 | .dsMaxU64 | .dsAndB64 | .dsOrB64 | .dsXorB64
  | .dsWriteB64 | .dsMinF64 | .dsMaxF64 | .dsWriteB96 | .dsWriteB128 => .aD0
  | .dsMskorB32 | .dsCmpstB32 | .dsCmpstF32 | .dsMskorB64 | .dsCmpstB64 | .dsCmpstF64 => .aD0D1
  | .dsWrite2B32 | .dsWrite2st64B32 | .dsWrite2B64 | .dsWrite2st64B64 => .aD0D1TwoOff
  | .dsNop => .noOperands
  | .dsGwsSemaReleaseAll | .dsGwsInit | .dsGwsSemaV | .dsGwsSemaBr | .dsGwsSemaP | .dsGwsBarrier => .gws
  | .dsAddRtnU32 | .dsSubRtnU32 | .dsRsubRtnU32 | .dsIncRtnU32 | .dsDecRtnU32 | .dsMinRtnI32
  | .dsMaxRtnI32 | .dsMinRtnU32 | .dsMaxRtnU32 | .dsAndRtnB32 | .dsOrRtnB32 | .dsXorRtnB32
  | .dsWrxchgRtnB32 | .dsMinRtnF32 | .dsMaxRtnF32 | .dsAddRtnF32 | .dsPermuteB32 | .dsBpermuteB32
  | .dsAddRtnU64 | .dsSubRtnU64 | .dsRsubRtnU64 | .dsIncRtnU64 | .dsDecRtnU64 | .dsMinRtnI64
  | .dsMaxRtnI64 | .dsMinRtnU64 | .dsMaxRtnU64 | .dsAndRtnB64 | .dsOrRtnB64 | .dsXorRtnB64
  | .dsWrxchgRtnB64 | .dsMinRtnF64 | .dsMaxRtnF64 | .dsCondxchg32RtnB64 | .dsCondxchg32RtnB128 => .dstAD0
  | .dsMskorRtnB32 | .dsCmpstRtnB32 | .dsCmpstRtnF32 | .dsWrapRtnB32 | .dsMskorRtnB64 | .dsCmpstRtnB64
  | .dsCmpstRtnF64 => .dstAD0D1
  | .dsWrxchg2RtnB32 | .dsWrxchg2st64RtnB32 | .dsWrxchg2RtnB64 | .dsWrxchg2st64RtnB64 => .dstAD0D1TwoOff
  | .dsSwizzleB32 | .dsReadB32 | .dsReadI8 | .dsReadU8 | .dsReadI16 | .dsReadU16
  | .dsOrderedCount | .dsReadB64 | .dsReadB96 | .dsReadB128 => .dstA
  | .dsRead2B32 | .dsRead2st64B32 | .dsRead2B64 | .dsRead2st64B64 => .dstATwoOff
  | .dsConsume | .dsAppend => .dstOnly
  | .dsAddSrc2U32 | .dsSubSrc2U32 | .dsRsubSrc2U32 | .dsIncSrc2U32 | .dsDecSrc2U32 | .dsMinSrc2I32
  | .dsMaxSrc2I32 | .dsMinSrc2U32 | .dsMaxSrc2U32 | .dsAndSrc2B32 | .dsOrSrc2B32 | .dsXorSrc2B32
  | .dsWriteSrc2B32 | .dsMinSrc2F32 | .dsMaxSrc2F32 | .dsAddSrc2F32 | .dsAddSrc2U64 | .dsSubSrc2U64
  | .dsRsubSrc2U64 | .dsIncSrc2U64 | .dsDecSrc2U64 | .dsMinSrc2I64 | .dsMaxSrc2I64 | .dsMinSrc2U64
  | .dsMaxSrc2U64 | .dsAndSrc2B64 | .dsOrSrc2B64 | .dsXorSrc2B64 | .dsWriteSrc2B64 | .dsMinSrc2F64
  | .dsMaxSrc2F64 => .aOnly

end Sys2Proof
end

