-- ==== Sys2Proof/Machine/State.lean ====
section
/-! DEFINITION. The machine's state (R16, R25 to R37), the reasons a step can stop (R300, R326), and the state after
reset. -/

namespace Sys2Proof.Machine

/-! ## Sparse stores in canonical form -/

/-- The canonical form of a sparse store: keys strictly rising, no entry equal to what an unlisted key reads as (0,
log entries 3 and 4). -/
abbrev CellsWf {w : Nat} (m : List (Nat × BitVec w)) : Prop :=
  m.Pairwise (fun a b => a.1 < b.1) ∧ ∀ c ∈ m, c.2 ≠ 0

/-- A byte-addressed memory (R29, R30, R63): address and byte pairs; an unlisted address reads as 0 (log entry 4). -/
abbrev Memory := List Host.Cell

/-- The canonical form of a memory. -/
abbrev Memory.wf (m : Memory) : Prop := CellsWf m

/-- The state of the one wavefront and of what it can reach (R16 item 2). -/
structure State where
  /-- the launch parameters of R5, fixed for the run -/
  params : Params
  /-- the program counter, a byte address in instruction memory (R32) -/
  pc : Nat
  /-- `M0` (R28) -/
  m0 : Word
  /-- whether `M0` has been written since launch (R28 item 6, R37) -/
  m0Written : Bool
  /-- the active mask: entry `l` is `active[l]`; a lane past the end of the list is not active (R31) -/
  active : List Bool
  /-- the vector registers `v[r][l]` (R25), keyed by `vgprKey l r`; an unlisted one holds 0 -/
  vgpr : List (Nat × Word)
  /-- the keys of the vector register elements that hold no value (R36, R37), strictly rising -/
  vgprUnwritten : List Nat
  /-- local data share (R29) -/
  lds : Memory
  /-- global data share (R30) -/
  gds : Memory
  /-- instruction memory (R63, R85) -/
  imem : Memory
  /-- the address of the program's first word (R321) -/
  progStart : Nat
  /-- the number of 64-bit words of the program (R326) -/
  progWords : Nat
  /-- the model's own field, not the spec's: choices of lane order (R59) supplied from outside, used before
  `Config.laneChoice` (log entry 7) -/
  laneTape : List Nat
  /-- the model's own field, not the spec's: how many lane orders have been used up (log entry 7) -/
  issued : Nat
  deriving DecidableEq, Repr

/-- What an `UnwrittenRegister` outcome names (R300). -/
inductive RegName where
  /-- `M0` -/
  | m0
  /-- `v[r][l]` -/
  | vector (r l : Nat)
  deriving DecidableEq, Repr

/-- The outcomes of R300 that say the step has gone wrong. They end the run as not final; nothing has been changed
(R306). -/
inductive Fault where
  /-- `IllegalEncoding` (code 1): raised by the step, not by a meaning, for a fetched word no DS instruction has.
  Safe: nothing can be concluded from it (R303). -/
  | illegalEncoding (pc : Nat) (word : InstrWord) (reason : IllegalReason)
  /-- `UnwrittenRegister` (code 3): raised by every meaning that accesses memory (R302, R37).
  Safe: hardware goes on with some bits, the model stops. -/
  | unwrittenRegister (reg : RegName)
  /-- `DsOutOfRange` (code 4): raised by every meaning that accesses memory (R301, R53); `ea` is `none` when
  `S ≥ 2^32`, where no 32-bit address exists (log entry 20).
  Safe: hardware goes on, the model stops. -/
  | dsOutOfRange (space : Space) (lane sum : Nat) (ea : Option Nat) (width limit : Nat)
  deriving DecidableEq, Repr

/-- The reasons of a `Refused` outcome (R300). -/
inductive RefusedReason where
  | undescribed
  | registerOutOfFile
  deriving DecidableEq, Repr

/-- The stops that say there is no next state to give. -/
inductive Refusal where
  /-- An instruction whose meaning has not been written: raised by an arm of `exec` only. Safe. No arm raises it. -/
  | notModelled (mnemonic : String)
  /-- `Refused` (code 2) of R300, R303: raised by a meaning. Safe: "this spec cannot tell you what the hardware does
  here". -/
  | refused (pc : Nat) (mnemonic : Mnemonic) (reason : RefusedReason)
  /-- The normal end of the run (R326): raised by the step when `pc` is the address just after the last word. It is no
  abnormal outcome. Safe. -/
  | runEnded
  /-- Raised by the step when `pc` is at no word of the program, which no run reaches (log entry 15). Safe. -/
  | pcOutsideProgram (pc : Nat)
  deriving DecidableEq, Repr

/-- The launch parameters at reset: `ADMIT_GK` and `OOR_POLICY` as R5 decides them, the open ones as log entries 1
and 5 say. -/
def Params.reset : Params :=
  { arch := .gcn12, layout := .sourceTable, waveSize := 64, vgprAlloc := 256,
    ldsSize := 0x10000, gdsSize := 0x1000, admitGk := false, oorPolicy := .fault }

/-- The machine right after reset. The spec has no reset (R320) and gives no launch value (R36): every value here but
those R5 decides is a log entry's (entries 1, 3 to 7, 14); no program is placed. -/
def State.reset : State :=
  { params := Params.reset
    pc := 0
    m0 := 0xFFFFFFFF
    m0Written := true
    active := true :: List.replicate 63 false
    vgpr := []
    vgprUnwritten := []
    lds := []
    gds := []
    imem := []
    progStart := 0
    progWords := 0
    laneTape := []
    issued := 0 }

end Sys2Proof.Machine
end

