-- ==== Sys2Proof/WellFormed.lean ====
section
/-! DEFINITION. Which decoded terms an encoder writes: unused fields zero (R80, R92) and the mnemonic present on the
version (R82). -/

namespace Sys2Proof

/-- The operand fields a class uses (the column "Uses" of R80, with `VDST` where the shape shows it). -/
structure FieldUse where
  addr : Bool
  vdata0 : Bool
  vdata1 : Bool
  vdst : Bool
  /-- `OFFSET`, or `OFFSET0` and `OFFSET1` -/
  offset : Bool
  gds : Bool
  deriving DecidableEq, Repr

/-- R80. What class `GWS` uses is not settled: every field is carried, so an encoder may write any of them. -/
def OperandClass.uses (c : OperandClass) : FieldUse :=
  match c with
  | .aD0 => ⟨true, true, false, false, true, true⟩
  | .aD0D1 => ⟨true, true, true, false, true, true⟩
  | .aD0D1TwoOff => ⟨true, true, true, false, true, true⟩
  | .dstA => ⟨true, false, false, true, true, true⟩
  | .dstAD0 => ⟨true, true, false, true, true, true⟩
  | .dstAD0D1 => ⟨true, true, true, true, true, true⟩
  | .dstAD0D1TwoOff => ⟨true, true, true, true, true, true⟩
  | .dstATwoOff => ⟨true, false, false, true, true, true⟩
  | .aOnly => ⟨true, false, false, false, true, true⟩
  | .dstOnly => ⟨false, false, false, true, true, true⟩
  | .noOperands => ⟨false, false, false, false, false, false⟩
  | .gws => ⟨true, true, true, true, true, true⟩

/-- The fields with 0 in every one the class does not use: what an encoder writes (R80, R92). -/
def DsFields.clearUnused (u : FieldUse) (f : DsFields) : DsFields :=
  { offset := if u.offset then f.offset else 0
    gds := u.gds && f.gds
    addr := if u.addr then f.addr else 0
    vdata0 := if u.vdata0 then f.vdata0 else 0
    vdata1 := if u.vdata1 then f.vdata1 else 0
    vdst := if u.vdst then f.vdst else 0 }

/-- Check 1: every field the instruction does not use is 0 (R92, "every term with zero unused fields"). -/
def Instr.unusedFieldsZero (i : Instr) : Bool :=
  i.fields.clearUnused i.mnemonic.operandClass.uses == i.fields

/-- Check 2: the versions a mnemonic exists on (R82, items 2 to 4; on GCN 1.2 every mnemonic exists). -/
def Mnemonic.presentOn (m : Mnemonic) (arch : Arch) : Bool :=
  match arch with
  | .gcn12 => true
  | .gcn11 => !([.dsAddF32, .dsAddRtnF32, .dsAddSrc2F32, .dsPermuteB32, .dsBpermuteB32] : List Mnemonic).contains m
  | .gcn10 =>
    !([.dsAddF32, .dsAddRtnF32, .dsAddSrc2F32, .dsPermuteB32, .dsBpermuteB32,
      .dsNop, .dsWrapRtnB32, .dsCondxchg32RtnB64, .dsWriteB96, .dsWriteB128, .dsCondxchg32RtnB128,
      .dsReadB96, .dsReadB128, .dsGwsSemaReleaseAll] : List Mnemonic).contains m

/-- A term an encoder for `arch` writes. -/
def WellFormed (arch : Arch) (i : Instr) : Prop :=
  i.unusedFieldsZero = true ∧ i.mnemonic.presentOn arch = true

end Sys2Proof
end

