-- ==== Sys2Proof/Decode.lean ====
section
/-! DEFINITION. Decoding and encoding the 64-bit DS word (R75 to R92): the opcode map, the decoder (total on any bytes), the encoder, and
the assembler over tokenised lines. -/

namespace Sys2Proof

/-! ## The opcode map (R81) -/

/-- One row of the source's list of instructions by opcode, with the availability made explicit (R81). -/
structure OpcodeRow where
  opcode : BitVec 8
  gcn10 : Option Mnemonic
  gcn11 : Option Mnemonic
  gcn12 : Option Mnemonic
  deriving DecidableEq, Repr

/-- The column of a row that `arch` selects (R81 items 1 to 3). -/
def OpcodeRow.on (r : OpcodeRow) (arch : Arch) : Option Mnemonic :=
  match arch with
  | .gcn10 => r.gcn10
  | .gcn11 => r.gcn11
  | .gcn12 => r.gcn12

/-- A row that holds one mnemonic on all three versions (R82 item 1). -/
def rowAll (op : BitVec 8) (m : Mnemonic) : OpcodeRow := ⟨op, some m, some m, some m⟩

/-- A row with a mnemonic on GCN 1.0 and 1.1 and another one, or none, on GCN 1.2. -/
def rowMoved (op : BitVec 8) (old : Mnemonic) (new : Option Mnemonic) : OpcodeRow := ⟨op, some old, some old, new⟩

/-- A row without a tick under GCN 1.0 (R82 item 2). -/
def rowFrom11 (op : BitVec 8) (m : Mnemonic) : OpcodeRow := ⟨op, none, some m, some m⟩

/-- A row assigned on GCN 1.2 alone (R82 items 3 to 5). -/
def rowOnly12 (op : BitVec 8) (m : Mnemonic) : OpcodeRow := ⟨op, none, none, some m⟩

/-- R81, opcodes 0 to 31. -/
def opcodeRows0 : List OpcodeRow := [
  rowAll 0 .dsAddU32,
  rowAll 1 .dsSubU32,
  rowAll 2 .dsRsubU32,
  rowAll 3 .dsIncU32,
  rowAll 4 .dsDecU32,
  rowAll 5 .dsMinI32,
  rowAll 6 .dsMaxI32,
  rowAll 7 .dsMinU32,
  rowAll 8 .dsMaxU32,
  rowAll 9 .dsAndB32,
  rowAll 10 .dsOrB32,
  rowAll 11 .dsXorB32,
  rowAll 12 .dsMskorB32,
  rowAll 13 .dsWriteB32,
  rowAll 14 .dsWrite2B32,
  rowAll 15 .dsWrite2st64B32,
  rowAll 16 .dsCmpstB32,
  rowAll 17 .dsCmpstF32,
  rowAll 18 .dsMinF32,
  rowAll 19 .dsMaxF32,
  rowFrom11 20 .dsNop,
  rowOnly12 21 .dsAddF32,
  ⟨24, none, some .dsGwsSemaReleaseAll, none⟩,
  rowMoved 25 .dsGwsInit none,
  rowMoved 26 .dsGwsSemaV none,
  rowMoved 27 .dsGwsSemaBr none,
  rowMoved 28 .dsGwsSemaP none,
  rowMoved 29 .dsGwsBarrier none,
  rowAll 30 .dsWriteB8,
  rowAll 31 .dsWriteB16]

/-- R81, opcodes 32 to 63. -/
def opcodeRows32 : List OpcodeRow := [
  rowAll 32 .dsAddRtnU32,
  rowAll 33 .dsSubRtnU32,
  rowAll 34 .dsRsubRtnU32,
  rowAll 35 .dsIncRtnU32,
  rowAll 36 .dsDecRtnU32,
  rowAll 37 .dsMinRtnI32,
  rowAll 38 .dsMaxRtnI32,
  rowAll 39 .dsMinRtnU32,
  rowAll 40 .dsMaxRtnU32,
  rowAll 41 .dsAndRtnB32,
  rowAll 42 .dsOrRtnB32,
  rowAll 43 .dsXorRtnB32,
  rowAll 44 .dsMskorRtnB32,
  rowAll 45 .dsWrxchgRtnB32,
  rowAll 46 .dsWrxchg2RtnB32,
  rowAll 47 .dsWrxchg2st64RtnB32,
  rowAll 48 .dsCmpstRtnB32,
  rowAll 49 .dsCmpstRtnF32,
  rowAll 50 .dsMinRtnF32,
  rowAll 51 .dsMaxRtnF32,
  rowFrom11 52 .dsWrapRtnB32,
  rowMoved 53 .dsSwizzleB32 (some .dsAddRtnF32),
  rowAll 54 .dsReadB32,
  rowAll 55 .dsRead2B32,
  rowAll 56 .dsRead2st64B32,
  rowAll 57 .dsReadI8,
  rowAll 58 .dsReadU8,
  rowAll 59 .dsReadI16,
  rowAll 60 .dsReadU16,
  rowMoved 61 .dsConsume (some .dsSwizzleB32),
  rowMoved 62 .dsAppend (some .dsPermuteB32),
  rowMoved 63 .dsOrderedCount (some .dsBpermuteB32)]

/-- R81, opcodes 64 to 95. -/
def opcodeRows64 : List OpcodeRow := [
  rowAll 64 .dsAddU64,
  rowAll 65 .dsSubU64,
  rowAll 66 .dsRsubU64,
  rowAll 67 .dsIncU64,
  rowAll 68 .dsDecU64,
  rowAll 69 .dsMinI64,
  rowAll 70 .dsMaxI64,
  rowAll 71 .dsMinU64,
  rowAll 72 .dsMaxU64,
  rowAll 73 .dsAndB64,
  rowAll 74 .dsOrB64,
  rowAll 75 .dsXorB64,
  rowAll 76 .dsMskorB64,
  rowAll 77 .dsWriteB64,
  rowAll 78 .dsWrite2B64,
  rowAll 79 .dsWrite2st64B64,
  rowAll 80 .dsCmpstB64,
  rowAll 81 .dsCmpstF64,
  rowAll 82 .dsMinF64,
  rowAll 83 .dsMaxF64]

/-- R81, opcodes 96 to 127. -/
def opcodeRows96 : List OpcodeRow := [
  rowAll 96 .dsAddRtnU64,
  rowAll 97 .dsSubRtnU64,
  rowAll 98 .dsRsubRtnU64,
  rowAll 99 .dsIncRtnU64,
  rowAll 100 .dsDecRtnU64,
  rowAll 101 .dsMinRtnI64,
  rowAll 102 .dsMaxRtnI64,
  rowAll 103 .dsMinRtnU64,
  rowAll 104 .dsMaxRtnU64,
  rowAll 105 .dsAndRtnB64,
  rowAll 106 .dsOrRtnB64,
  rowAll 107 .dsXorRtnB64,
  rowAll 108 .dsMskorRtnB64,
  rowAll 109 .dsWrxchgRtnB64,
  rowAll 110 .dsWrxchg2RtnB64,
  rowAll 111 .dsWrxchg2st64RtnB64,
  rowAll 112 .dsCmpstRtnB64,
  rowAll 113 .dsCmpstRtnF64,
  rowAll 114 .dsMinRtnF64,
  rowAll 115 .dsMaxRtnF64,
  rowAll 118 .dsReadB64,
  rowAll 119 .dsRead2B64,
  rowAll 120 .dsRead2st64B64,
  rowFrom11 126 .dsCondxchg32RtnB64]

/-- R81, opcodes 128 to 191. -/
def opcodeRows128 : List OpcodeRow := [
  rowAll 128 .dsAddSrc2U32,
  rowAll 129 .dsSubSrc2U32,
  rowAll 130 .dsRsubSrc2U32,
  rowAll 131 .dsIncSrc2U32,
  rowAll 132 .dsDecSrc2U32,
  rowAll 133 .dsMinSrc2I32,
  rowAll 134 .dsMaxSrc2I32,
  rowAll 135 .dsMinSrc2U32,
  rowAll 136 .dsMaxSrc2U32,
  rowAll 137 .dsAndSrc2B32,
  rowAll 138 .dsOrSrc2B32,
  rowAll 139 .dsXorSrc2B32,
  rowAll 141 .dsWriteSrc2B32,
  rowAll 146 .dsMinSrc2F32,
  rowAll 147 .dsMaxSrc2F32,
  rowOnly12 149 .dsAddSrc2F32,
  rowOnly12 152 .dsGwsSemaReleaseAll,
  rowOnly12 153 .dsGwsInit,
  rowOnly12 154 .dsGwsSemaV,
  rowOnly12 155 .dsGwsSemaBr,
  rowOnly12 156 .dsGwsSemaP,
  rowOnly12 157 .dsGwsBarrier,
  rowOnly12 189 .dsConsume,
  rowOnly12 190 .dsAppend,
  rowOnly12 191 .dsOrderedCount]

/-- R81, opcodes 192 to 255. -/
def opcodeRows192 : List OpcodeRow := [
  rowAll 192 .dsAddSrc2U64,
  rowAll 193 .dsSubSrc2U64,
  rowAll 194 .dsRsubSrc2U64,
  rowAll 195 .dsIncSrc2U64,
  rowAll 196 .dsDecSrc2U64,
  rowAll 197 .dsMinSrc2I64,
  rowAll 198 .dsMaxSrc2I64,
  rowAll 199 .dsMinSrc2U64,
  rowAll 200 .dsMaxSrc2U64,
  rowAll 201 .dsAndSrc2B64,
  rowAll 202 .dsOrSrc2B64,
  rowAll 203 .dsXorSrc2B64,
  rowMoved 204 .dsWriteSrc2B64 none,
  rowOnly12 205 .dsWriteSrc2B64,
  rowAll 210 .dsMinSrc2F64,
  rowAll 211 .dsMaxSrc2F64,
  rowFrom11 222 .dsWriteB96,
  rowFrom11 223 .dsWriteB128,
  rowFrom11 253 .dsCondxchg32RtnB128,
  rowFrom11 254 .dsReadB96,
  rowFrom11 255 .dsReadB128]

/-- The full map of R81: 152 rows. -/
def opcodeTable : List OpcodeRow :=
  opcodeRows0 ++ opcodeRows32 ++ opcodeRows64 ++ opcodeRows96 ++ opcodeRows128 ++ opcodeRows192

/-- The mnemonic an opcode number selects on a version; `none`: unassigned (R81, R83). -/
def mnemonicOf (arch : Arch) (op : BitVec 8) : Option Mnemonic :=
  (opcodeTable.find? (fun r => r.opcode == op)).bind (fun r => r.on arch)

/-- The opcode number of a mnemonic on a version (R81, R82 item 5); `none`: the version does not have it. -/
def opcodeOf (arch : Arch) (m : Mnemonic) : Option (BitVec 8) :=
  (opcodeTable.find? (fun r => r.on arch == some m)).map (fun r => r.opcode)

/-! ## The fields of the word (R76, R78) -/

/-- `ENCODING`, `I[31:26]` (R77). -/
def encodingField (w : InstrWord) : BitVec 6 := w.extractLsb' 26 6

/-- `OPCODE`, `I[25:18]`. -/
def opcodeField (w : InstrWord) : BitVec 8 := w.extractLsb' 18 8

/-- The operand fields of R76 under a layout; the source's table is the only one (R86). -/
def fieldsOf (layout : DsLayout) (w : InstrWord) : DsFields :=
  match layout with
  | .sourceTable =>
    { offset := w.extractLsb' 0 16
      gds := w.getLsbD 17
      addr := w.extractLsb' 32 8
      vdata0 := w.extractLsb' 40 8
      vdata1 := w.extractLsb' 48 8
      vdst := w.extractLsb' 56 8 }

/-- `OFFSET0`, the low half of `OFFSET` (R78). -/
def DsFields.offset0 (f : DsFields) : BitVec 8 := f.offset.extractLsb' 0 8

/-- `OFFSET1`, the high half of `OFFSET` (R78). -/
def DsFields.offset1 (f : DsFields) : BitVec 8 := f.offset.extractLsb' 8 8

/-! ## The decoder (R92) -/

/-- R92, in its order: not DS, bit 16 (R79), unassigned opcode (R83), a DS term with all its fields. -/
def decode (layout : DsLayout) (arch : Arch) (w : InstrWord) : Decoded :=
  if encodingField w ≠ 0b110110#6 then .notDs
  else if w.getLsbD 16 then .illegal .bit16
  else
    match mnemonicOf arch (opcodeField w) with
    | none => .illegal .unassignedOpcode
    | some m => .ds (m.instr (fieldsOf layout w))

/-- A value from its bytes, least significant first (R54, R85). -/
def ofBytesLE (bs : List Byte) : Nat :=
  match bs with
  | [] => 0
  | b :: rest => b.toNat + 256 * ofBytesLE rest

/-- The `n` bytes of a value, least significant first (R54, R85). -/
def toBytesLE (n : Nat) (x : Nat) : List Byte :=
  match n with
  | 0 => []
  | k + 1 => BitVec.ofNat 8 x :: toBytesLE k (x / 256)

/-- Decoding a byte string: the first 8 bytes are the word, least significant byte first (R75, R85), and the rest is
left over. Fewer than 8 bytes hold no instruction. -/
def decodeBytes (layout : DsLayout) (arch : Arch) (bs : List Byte) : Option (Decoded × List Byte) :=
  if (bs.take 8).length = 8 then
    some (decode layout arch (BitVec.ofNat 64 (ofBytesLE (bs.take 8))), bs.drop 8)
  else none

/-- The instruction of a decoder's answer, if it is one. -/
def Decoded.instr? (d : Decoded) : Option Instr :=
  match d with
  | .ds i => some i
  | .illegal _ => none
  | .notDs => none

/-- The instruction `decodeBytes` reads at the front of a byte string on one version. -/
def decodeInstrBytes (arch : Arch) (bs : List Byte) : Option Instr :=
  (decodeBytes .sourceTable arch bs).bind (fun d => d.1.instr?)

/-- The versions in the order in which a word without a version is tried (log entry 14). -/
def archTrials : List Arch := [.gcn12, .gcn11, .gcn10]

/-- The host's question about one row of the opcode table: the instruction read from the `nbits` bits `w`, laid out as
the 8 bytes of R85. A row names no version, and opcodes 53, 61, 62 and 63 select different instructions by version
(R82 item 6); the versions are tried newest first (log entry 14). -/
def decodeTableWord (nbits w : Nat) : Option Instr :=
  archTrials.findSome? (fun arch => decodeInstrBytes arch (toBytesLE 8 (w % 2 ^ nbits)))

/-! ## The encoder (R92) -/

/-- The word with the given opcode and fields, bit 16 zero (R76, R79, R84). -/
def assembleWord (layout : DsLayout) (op : BitVec 8) (f : DsFields) : InstrWord :=
  match layout with
  | .sourceTable =>
    f.vdst ++ f.vdata1 ++ f.vdata0 ++ f.addr ++ 0b110110#6 ++ op ++ BitVec.ofBool f.gds ++ 0#1 ++ f.offset

/-- The word of an instruction on a version, with 0 in bit 16 and in every field the instruction does not use (R79,
R80, R92); `none`: the version does not have the mnemonic. -/
def encode (layout : DsLayout) (arch : Arch) (i : Instr) : Option InstrWord :=
  (opcodeOf arch i.mnemonic).map
    (fun op => assembleWord layout op (i.fields.clearUnused i.mnemonic.operandClass.uses))

/-! ## Match and mask (R84) -/

/-- `mask` of R84: bits 18 to 31. -/
def opcodeMask : InstrWord := 0x00000000FFFC0000

/-- `match` of R84. -/
def opcodeMatch (op : BitVec 8) : InstrWord := 0x00000000D8000000 ||| (op.setWidth 64 <<< 18)

/-! ## The assembler over tokenised lines (R88 to R91) -/

/-- Every mnemonic, in the order of the opcode map. -/
def allMnemonics : List Mnemonic := opcodeTable.filterMap (fun r => r.gcn12)

/-- A mnemonic from its spelling, matched without regard to case (R89); misprints are no aliases (R91, R93). -/
def mnemonicOfName (name : String) : Option Mnemonic :=
  allMnemonics.find? (fun m => m.name == name.toUpper)

/-- One assembler line after its text is split up: register operands are given by number (R90 sources no spelling of
them), a multi-register operand by its first register; an absent modifier is `none` (R89). -/
structure AsmLine where
  mnemonic : Mnemonic
  /-- the register operands in the order of the line -/
  regs : List Nat
  /-- `offset:N` -/
  offset : Option Nat
  /-- `offset0:N` -/
  offset0 : Option Nat
  /-- `offset1:N` -/
  offset1 : Option Nat
  /-- the bare word `GDS` -/
  gds : Bool
  deriving DecidableEq, Repr

/-- A modifier's field value: 0 when omitted, an assembly error (`none`) outside the field's range (R89). -/
def modifierValue (width : Nat) (v : Option Nat) : Option (BitVec width) :=
  match v with
  | none => some 0
  | some n => if n < 2 ^ width then some (BitVec.ofNat width n) else none

/-- Whether a class takes the two 8-bit offsets instead of the 16-bit one (R78, R80). -/
def OperandClass.twoOffsets (c : OperandClass) : Bool :=
  match c with
  | .aD0D1TwoOff | .dstAD0D1TwoOff | .dstATwoOff => true
  | .aD0 | .aD0D1 | .dstA | .dstAD0 | .dstAD0D1 | .aOnly | .dstOnly | .noOperands | .gws => false

/-- The register fields of a line: destination first, then the address, then the data (R88). The number of operands
must be what the class takes; `GWS` has no settled shape (R80), so it assembles to nothing. -/
def AsmLine.registers (l : AsmLine) : Option DsFields :=
  let v (n : Nat) : BitVec 8 := BitVec.ofNat 8 n
  if l.regs.all (fun n => decide (n < 256)) then
    match l.mnemonic.operandClass, l.regs with
    | .aD0, [a, d0] => some ⟨0, false, v a, v d0, 0, 0⟩
    | .aD0D1, [a, d0, d1] => some ⟨0, false, v a, v d0, v d1, 0⟩
    | .aD0D1TwoOff, [a, d0, d1] => some ⟨0, false, v a, v d0, v d1, 0⟩
    | .dstA, [d, a] => some ⟨0, false, v a, 0, 0, v d⟩
    | .dstAD0, [d, a, d0] => some ⟨0, false, v a, v d0, 0, v d⟩
    | .dstAD0D1, [d, a, d0, d1] => some ⟨0, false, v a, v d0, v d1, v d⟩
    | .dstAD0D1TwoOff, [d, a, d0, d1] => some ⟨0, false, v a, v d0, v d1, v d⟩
    | .dstATwoOff, [d, a] => some ⟨0, false, v a, 0, 0, v d⟩
    | .aOnly, [a] => some ⟨0, false, v a, 0, 0, 0⟩
    | .dstOnly, [d] => some ⟨0, false, 0, 0, 0, v d⟩
    | .noOperands, [] => some ⟨0, false, 0, 0, 0, 0⟩
    | _, _ => none
  else none

/-- The offset field of a line: `offset:` for the single-offset classes, `offset0:` and `offset1:` for the two-offset
classes, and no modifier of the other kind (R78, R80, R88). -/
def AsmLine.offsetField (l : AsmLine) : Option (BitVec 16) :=
  if l.mnemonic.operandClass.twoOffsets then
    match l.offset, modifierValue 8 l.offset0, modifierValue 8 l.offset1 with
    | none, some o0, some o1 => some (o1 ++ o0)
    | _, _, _ => none
  else
    match l.offset0, l.offset1 with
    | none, none => modifierValue 16 l.offset
    | _, _ => none

/-- Whether a line gives a modifier its class does not take: `DS_NOP` takes none (R80). -/
def AsmLine.extraModifier (l : AsmLine) : Bool :=
  l.mnemonic.operandClass == .noOperands && (l.gds || l.offset.isSome)

/-- The instruction of an assembler line; `none`: an assembly error. -/
def assemble (l : AsmLine) : Option Instr :=
  if l.extraModifier then none
  else
    match l.registers, l.offsetField with
    | some f, some o => some (l.mnemonic.instr { f with offset := o, gds := l.gds })
    | _, _ => none

end Sys2Proof
end

