-- ==== Sys2Proof/Machine/Alu.lean ====
section
/-! DEFINITION. The functions of the old value that the atomic instructions apply (R100, R7, R8), at any width: `x` is the
old value, `d0` and `d1` the data operands. They write no flag (R33), so there is no flag computation beside them. -/

namespace Sys2Proof.Machine.Alu

variable {w : Nat}

/-- `x + D0` modulo 2^w (R101). -/
def add (x d0 _d1 : BitVec w) : BitVec w := x + d0

/-- `x - D0` modulo 2^w (R102). -/
def sub (x d0 _d1 : BitVec w) : BitVec w := x - d0

/-- `D0 - x` modulo 2^w (R103). -/
def rsub (x d0 _d1 : BitVec w) : BitVec w := d0 - x

/-- `x + 1` if `D0 >u x`, else 0 (R104). -/
def inc (x d0 _d1 : BitVec w) : BitVec w := if x < d0 then x + 1 else 0

/-- `x - 1` if `D0 >=u x` and `x ≠ 0`, else `D0` (R105). -/
def dec (x d0 _d1 : BitVec w) : BitVec w := if x ≤ d0 ∧ x ≠ 0 then x - 1 else d0

/-- The signed minimum (R106). -/
def minS (x d0 _d1 : BitVec w) : BitVec w := if x.toInt ≤ d0.toInt then x else d0

/-- The signed maximum (R107). -/
def maxS (x d0 _d1 : BitVec w) : BitVec w := if d0.toInt ≤ x.toInt then x else d0

/-- The unsigned minimum (R108). -/
def minU (x d0 _d1 : BitVec w) : BitVec w := if x ≤ d0 then x else d0

/-- The unsigned maximum (R109). -/
def maxU (x d0 _d1 : BitVec w) : BitVec w := if d0 ≤ x then x else d0

/-- Bitwise AND (R110). -/
def and (x d0 _d1 : BitVec w) : BitVec w := x &&& d0

/-- Bitwise OR (R111). -/
def or (x d0 _d1 : BitVec w) : BitVec w := x ||| d0

/-- Bitwise exclusive OR (R112). -/
def xor (x d0 _d1 : BitVec w) : BitVec w := x ^^^ d0

/-- `(x & ~D0) | D1` (R113). -/
def mskor (x d0 d1 : BitVec w) : BitVec w := (x &&& ~~~d0) ||| d1

/-- `D1` if `x = D0`, else `x` (R114). -/
def cmpst (x d0 d1 : BitVec w) : BitVec w := if x = d0 then d1 else x

/-- `D0` (R154). -/
def wrxchg (_x d0 _d1 : BitVec w) : BitVec w := d0

end Sys2Proof.Machine.Alu
end

