-- ==== Sys2Proof/Machine/Ops.lean ====
section
/-! DEFINITION. The named operations over memory, registers, the active mask, the program counter and the outcomes.
The spec has no exception entry and no return from one (R306, R307), so there is no such operation here. -/

namespace Sys2Proof.Machine

/-! ## Sparse stores -/

/-- The value at a key; an unlisted key holds 0. -/
def cellGet {w : Nat} (m : List (Nat × BitVec w)) (a : Nat) : BitVec w :=
  match m with
  | [] => 0
  | c :: rest => if c.1 = a then c.2 else cellGet rest a

/-- The store without a key. -/
def cellErase {w : Nat} (m : List (Nat × BitVec w)) (a : Nat) : List (Nat × BitVec w) :=
  m.filter (fun c => c.1 ≠ a)

/-- The store with an entry put before the first larger key. -/
def cellInsert {w : Nat} (m : List (Nat × BitVec w)) (a : Nat) (x : BitVec w) : List (Nat × BitVec w) :=
  match m with
  | [] => [(a, x)]
  | c :: rest => if a < c.1 then (a, x) :: c :: rest else c :: cellInsert rest a x

/-- The store with `x` at key `a`; writing what an unlisted key reads as removes the entry. -/
def cellSet {w : Nat} (m : List (Nat × BitVec w)) (a : Nat) (x : BitVec w) : List (Nat × BitVec w) :=
  if x = 0 then cellErase m a else cellInsert (cellErase m a) a x

/-! ## Memory (R10, R54) -/

/-- `MemRead(a, n)`: the sum over `i` of `byte[a+i] * 256^i`. -/
def memRead (m : Memory) (a : Nat) (n : Nat) : Nat :=
  match n with
  | 0 => 0
  | k + 1 => (cellGet m a).toNat + 256 * memRead m (a + 1) k

/-- `MemWrite(a, n, x)`: `byte[a+i]` becomes `x[8i+7:8i]`. -/
def memWrite (m : Memory) (a : Nat) (n : Nat) (x : Nat) : Memory :=
  match n with
  | 0 => m
  | k + 1 => memWrite (cellSet m a (BitVec.ofNat 8 x)) (a + 1) k (x / 256)

/-- The memory a space selects (R8, R45). -/
def State.mem (s : State) (sp : Space) : Memory :=
  match sp with
  | .lds => s.lds
  | .gds => s.gds

/-- The state with another memory in one space; the other space is a different memory (R45). -/
def State.setMem (s : State) (sp : Space) (m : Memory) : State :=
  match sp with
  | .lds => { s with lds := m }
  | .gds => { s with gds := m }

/-- One byte of a space. -/
def State.byteAt (s : State) (sp : Space) (a : Nat) : Byte := cellGet (s.mem sp) a

/-! ## The range check (R51 to R53) -/

/-- One access of a lane: its exact address sum `S` and its width in bytes. -/
structure Access where
  sum : Nat
  width : Nat
  deriving DecidableEq, Repr

/-- `EA`: the sum with the low bits cleared that the width asks for (R47, R48, R50). -/
def Access.ea (a : Access) : Nat := alignDown a.width a.sum

/-- The limit of a space in bytes: `min(M0, LDS_SIZE)` (R51), or `GDS_SIZE` (R52). -/
def State.limit (s : State) (sp : Space) : Nat :=
  match sp with
  | .lds => min s.m0.toNat s.params.ldsSize
  | .gds => s.params.gdsSize

/-- Whether an access is admitted: `S < 2^32` and `EA + n ≤ LIMIT` (R51, R52). -/
def State.admits (s : State) (sp : Space) (a : Access) : Bool :=
  decide (a.sum < 2 ^ 32) && decide (a.ea + a.width ≤ s.limit sp)

/-- Whether an access that is not admitted ends the run: always under `fault`; under `zeroDrop`, which R53 records for
LDS, only in GDS (log entry 11). -/
def State.rangeFaults (s : State) (sp : Space) : Bool :=
  match s.params.oorPolicy, sp with
  | .fault, _ => true
  | .zeroDrop, .lds => false
  | .zeroDrop, .gds => true

/-- The outcome of an access that is not admitted (R53, R300; log entry 20). -/
def State.rangeFault (s : State) (sp : Space) (l : Nat) (a : Access) : Fault :=
  .dsOutOfRange sp l a.sum (if a.sum < 2 ^ 32 then some a.ea else none) a.width (s.limit sp)

/-- The read half of an access. An access that is not admitted reads 0, which happens under `zeroDrop` alone (R53). -/
def State.loadAt (s : State) (sp : Space) (a : Access) (m : Memory) : Nat :=
  if s.admits sp a then memRead m a.ea a.width else 0

/-- The write half of an access. An access that is not admitted writes nothing, which happens under `zeroDrop` alone
(R53). -/
def State.storeAt (s : State) (sp : Space) (a : Access) (x : Nat) (m : Memory) : Memory :=
  if s.admits sp a then memWrite m a.ea a.width x else m

/-! ## Vector registers (R25, R36, R37) -/

/-- The key of `v[r][l]` in the register store (log entry 23). -/
def vgprKey (l r : Nat) : Nat := l * 256 + r

/-- `v[r][l]`. -/
def State.vreg (s : State) (r l : Nat) : Word := cellGet s.vgpr (vgprKey l r)

/-- Whether `v[r][l]` holds a value (R37). -/
def State.holdsValue (s : State) (r l : Nat) : Bool := !s.vgprUnwritten.contains (vgprKey l r)

/-- `v[r][l] <- x`; the element then holds a value. -/
def State.setVreg (s : State) (r l : Nat) (x : Word) : State :=
  { s with vgpr := cellSet s.vgpr (vgprKey l r) x
           vgprUnwritten := s.vgprUnwritten.filter (fun k => k ≠ vgprKey l r) }

/-- Consecutive registers of one lane written from the first on (R27). -/
def State.setVregs (s : State) (r l : Nat) (xs : List Word) : State :=
  match xs with
  | [] => s
  | x :: rest => (s.setVreg r l x).setVregs (r + 1) l rest

/-- The value of `k` consecutive registers of a lane, low dword in the lowest-numbered one (R27). -/
def State.vregsNat (s : State) (r l k : Nat) : Nat :=
  match k with
  | 0 => 0
  | j + 1 => (s.vreg r l).toNat + 2 ^ 32 * s.vregsNat (r + 1) l j

/-- The low `k` dwords of a value, low dword first (R27). -/
def toWords (k : Nat) (x : Nat) : List Word :=
  match k with
  | 0 => []
  | j + 1 => BitVec.ofNat 32 x :: toWords j (x / 2 ^ 32)

/-! ## Lanes and the program counter (R31, R32) -/

/-- Whether lane `l` is active. -/
def State.isActive (s : State) (l : Nat) : Bool := decide (l < s.params.waveSize) && s.active.getD l false

/-- The active lanes, lowest number first. -/
def State.activeLanes (s : State) : List Nat := (List.range s.params.waveSize).filter (fun l => s.isActive l)

/-- `pc <- pc + 8` (R32). -/
def State.advance (s : State) : State := { s with pc := s.pc + 8 }

/-! ## Instruction fetch (R63, R85, R321, R326) -/

/-- The address just after the program's last word (R326). -/
def State.progEnd (s : State) : Nat := s.progStart + 8 * s.progWords

/-- What a fetch gives. -/
inductive Fetched where
  /-- the word at `pc` -/
  | word (w : InstrWord)
  /-- the wavefront has ended normally (R326) -/
  | ended
  /-- `pc` is at no word of the program -/
  | outside
  deriving DecidableEq, Repr

/-- The word whose bytes are `byte[pc + k] = I[8k+7:8k]` (R85). -/
def State.wordAt (s : State) (a : Nat) : InstrWord := BitVec.ofNat 64 (memRead s.imem a 8)

/-- Fetching at `pc` (R321, R326; log entry 15). -/
def State.fetch (s : State) : Fetched :=
  if s.pc = s.progEnd then .ended
  else if s.progStart ≤ s.pc ∧ s.pc + 8 ≤ s.progEnd then .word (s.wordAt s.pc)
  else .outside

/-- The version on which a word is an instruction: the state's own if it is, else the first of `archTrials`, else the
state's own (log entry 14). -/
def archFor (own : Arch) (bs : List Byte) : Arch :=
  ((own :: archTrials).find? (fun a => (decodeInstrBytes a bs).isSome)).getD own

/-- The state with a one-word program at `pc`, launched on a version that has the word (log entry 14) and with
`ADMIT_GK` true, so that an instruction with a reading runs (log entry 2). -/
def State.placeProgramWord (s : State) (x : Nat) : State :=
  { s with imem := memWrite s.imem s.pc 8 x
           progStart := s.pc
           progWords := 1
           params := { s.params with arch := archFor s.params.arch (toBytesLE 8 x), admitGk := true } }

/-! ## Outcomes (R300, R303) -/

/-- What a meaning or a step answers. -/
abbrev Result := Host.Outcome State Fault Refusal

/-- R303 items 1 and 2: `Refused(undescribed)`. No register is read and nothing changes (R305 item 2, R306). Where
`register_out_of_file` (item 3) applies too, the reason given is this one: DESIGN CHOICE, R303 and R305 give no
precedence between the reasons (log entry 27). -/
def undescribed (m : Mnemonic) (s : State) : Result := .refused (.refused s.pc m .undescribed)

/-- The code R300 gives a fault. -/
def Fault.code (r : Fault) : Nat :=
  match r with
  | .illegalEncoding _ _ _ => 1
  | .unwrittenRegister _ => 3
  | .dsOutOfRange _ _ _ _ _ _ => 4

/-- The code R300 gives a refusal, if it is one of its outcomes. -/
def Refusal.code (r : Refusal) : Option Nat :=
  match r with
  | .refused _ _ _ => some 2
  | _ => none

end Sys2Proof.Machine
end

