-- ==== Sys2Proof/Machine/Operands.lean ====
section
/-! DEFINITION. The operand forms: which registers a DS instruction names (R25 to R27), the values of its data operands, the addresses
it forms (R47 to R49) and the space it selects (R45). -/

namespace Sys2Proof.Machine

/-- The space bit `GDS` selects (R45). -/
def space (f : DsFields) : Space := if f.gds then .gds else .lds

/-- A run of consecutive vector registers: an operand of `count` dwords named by field value `first` (R27). A `count`
of 0 is no operand. -/
structure RegRange where
  first : Nat
  count : Nat
  deriving DecidableEq, Repr

/-- The registers of a run, in rising order. That a run's registers are also looked at in this order, the
lower-numbered first, is the model's DESIGN CHOICE (log entry 26). -/
def RegRange.regs (r : RegRange) : List Nat := List.range' r.first r.count

/-- The operand `ADDR`: one register (R26). -/
def addrRange (f : DsFields) : RegRange := ⟨f.addr.toNat, 1⟩

/-- The operand `VDATA0` of `k` dwords (R26, R27). -/
def data0Range (f : DsFields) (k : Nat) : RegRange := ⟨f.vdata0.toNat, k⟩

/-- The operand `VDATA1` of `k` dwords (R26, R27). -/
def data1Range (f : DsFields) (k : Nat) : RegRange := ⟨f.vdata1.toNat, k⟩

/-- The destination `VDST` of `k` dwords (R26, R27). -/
def dstRange (f : DsFields) (k : Nat) : RegRange := ⟨f.vdst.toNat, k⟩

/-- No destination. -/
def noDst : RegRange := ⟨0, 0⟩

/-- `A`: the lane's byte address (R9). -/
def addrOf (f : DsFields) (s : State) (l : Nat) : Word := s.vreg f.addr.toNat l

/-- `D0` as a value of `w` bits, from `w / 32` registers (R9, R27). -/
def data0 (w : Nat) (f : DsFields) (s : State) (l : Nat) : BitVec w :=
  BitVec.ofNat w (s.vregsNat f.vdata0.toNat l (w / 32))

/-- `D1` as a value of `w` bits, from `w / 32` registers (R9, R27). -/
def data1 (w : Nat) (f : DsFields) (s : State) (l : Nat) : BitVec w :=
  BitVec.ofNat w (s.vregsNat f.vdata1.toNat l (w / 32))

/-- The single-offset access of `n` bytes: `S = A + zext(OFFSET)`, exact (R47, R49). -/
def access (n : Nat) (f : DsFields) (s : State) (l : Nat) : Access :=
  ⟨(addrOf f s l).toNat + f.offset.toNat, n⟩

/-- The first access of a two-offset form: `S0 = A + scale * zext(OFFSET0)`, exact (R48, R49). -/
def access0 (scale n : Nat) (f : DsFields) (s : State) (l : Nat) : Access :=
  ⟨(addrOf f s l).toNat + scale * f.offset0.toNat, n⟩

/-- The second access of a two-offset form: `S1 = A + scale * zext(OFFSET1)`, exact (R48, R49). -/
def access1 (scale n : Nat) (f : DsFields) (s : State) (l : Nat) : Access :=
  ⟨(addrOf f s l).toNat + scale * f.offset1.toNat, n⟩

end Sys2Proof.Machine
end

