-- ==== Sys2Proof/Machine/Lanes.lean ====
section
/-! DEFINITION. Running one DS instruction over the lanes of the wavefront: the order of the lanes (R59), the checks in the
order of R305, and the effects. -/

namespace Sys2Proof.Machine

/-! ## The order of the lanes (R59; log entry 7) -/

/-- `x` put into a list after its first `i` elements (after all of them, if there are fewer). -/
def insertAt (i : Nat) (x : Nat) (xs : List Nat) : List Nat :=
  match xs, i with
  | [], _ => [x]
  | y :: ys, 0 => x :: y :: ys
  | y :: ys, j + 1 => y :: insertAt j x ys

/-- The permutation of a list that a number picks. Every permutation is picked by some number. -/
def permute (choice : Nat) (xs : List Nat) : List Nat :=
  match xs with
  | [] => []
  | x :: rest => insertAt (choice % (rest.length + 1)) x (permute (choice / (rest.length + 1)) rest)

/-- The number that picks the order for this instruction: the next one supplied, else the free value. -/
def State.laneChoice (s : State) : Nat :=
  match s.laneTape with
  | c :: _ => c
  | [] => Config.laneChoice s.issued

/-- The active lanes in the order in which they take effect. -/
def State.laneOrder (s : State) : List Nat := permute s.laneChoice s.activeLanes

/-- The state after the choice of order has been used. -/
def State.spendChoice (s : State) : State := { s with laneTape := s.laneTape.tail, issued := s.issued + 1 }

/-! ## The plan of an instruction -/

/-- What an instruction's rule says, lane by lane: the register operands it reads, in the order of R305 item 4; its
destination; the accesses of a lane, in the order of R305 item 5; and a lane's effect on the selected memory together
with the dwords it returns. The operand values inside are those of the state before the instruction: all sources of a
lane are read before its destination is written, and no lane writes another lane's registers. -/
structure LanePlan where
  sources : List RegRange
  dest : RegRange
  accesses : Nat → List Access
  effect : Nat → Memory → Memory × List Word

/-- Whether a run of registers lies in the file: below `VGPR_ALLOC` (R25) and not past `v255` (R27). -/
def RegRange.inFile (p : Params) (r : RegRange) : Bool :=
  r.count == 0 || decide (r.first + r.count ≤ min p.vgprAlloc 256)

/-- Whether every register the plan names is in the file (R303 item 3). -/
def LanePlan.regsInFile (p : Params) (plan : LanePlan) : Bool :=
  plan.sources.all (fun r => r.inFile p) && plan.dest.inFile p

/-- The first element that holds no value among a lane's sources: the operands in the order of R305 item 4; inside an
operand of several registers the lowest-numbered one first, which R305 leaves open (DESIGN CHOICE, log entry 26). -/
def LanePlan.laneUnwritten (plan : LanePlan) (s : State) (l : Nat) : Option RegName :=
  (plan.sources.flatMap (fun r => r.regs)).findSome?
    (fun r => if s.holdsValue r l then none else some (.vector r l))

/-- The first element that holds no value, for the lowest-numbered active lane that has one (R302, R305 item 4). -/
def LanePlan.firstUnwritten (plan : LanePlan) (s : State) : Option RegName :=
  s.activeLanes.findSome? (fun l => plan.laneUnwritten s l)

/-- The first access of a lane that is not admitted (R305 item 5). -/
def LanePlan.laneOutOfRange (plan : LanePlan) (sp : Space) (s : State) (l : Nat) : Option Fault :=
  (plan.accesses l).findSome? (fun a => if s.admits sp a then none else some (s.rangeFault sp l a))

/-- The out-of-range outcome, for the lowest-numbered active lane that has one (R301, R305 item 5), where such an
access ends the run. -/
def LanePlan.firstOutOfRange (plan : LanePlan) (sp : Space) (s : State) : Option Fault :=
  if s.rangeFaults sp then s.activeLanes.findSome? (fun l => plan.laneOutOfRange sp s l) else none

/-- One lane's effect: on the selected memory, then on its destination registers. -/
def LanePlan.runLane (plan : LanePlan) (sp : Space) (s : State) (l : Nat) : State :=
  (s.setMem sp (plan.effect l (s.mem sp)).1).setVregs plan.dest.first l (plan.effect l (s.mem sp)).2

/-- The effects of the active lanes, one after another in the order chosen (R59). -/
def LanePlan.runLanes (plan : LanePlan) (sp : Space) (s : State) : State :=
  s.laneOrder.foldl (fun t l => plan.runLane sp t l) s

/-- The completed instruction (R12, R32). -/
def LanePlan.commit (plan : LanePlan) (sp : Space) (s : State) : State :=
  ((plan.runLanes sp s).advance).spendChoice

/-- Running a plan: the checks of R305 items 2 to 5, every one for every active lane before any effect, then the
effects. With no active lane only `pc` changes (R31). -/
def runPlan (m : Mnemonic) (sp : Space) (plan : LanePlan) (s : State) : Result :=
  if plan.regsInFile s.params = false then .refused (.refused s.pc m .registerOutOfFile)
  else if s.activeLanes = [] then .next s.advance
  else if s.m0Written = false then .fault (.unwrittenRegister .m0)
  else
    match plan.firstUnwritten s with
    | some r => .fault (.unwrittenRegister r)
    | none =>
      match plan.firstOutOfRange sp s with
      | some r => .fault r
      | none => .next (plan.commit sp s)

/-- Running the plan of a general-knowledge reading: `Refused(undescribed)` unless `ADMIT_GK` (R303 item 1), also for an
instruction that names a register outside the file (item 3), where R303 gives no precedence: DESIGN CHOICE, log
entry 27. -/
def runGkPlan (m : Mnemonic) (sp : Space) (plan : LanePlan) (s : State) : Result :=
  if s.params.admitGk then runPlan m sp plan s else undescribed m s

end Sys2Proof.Machine
end

