-- ==== Sys2Proof/Machine/Forms.lean ====
section
/-! DEFINITION. The shapes of the DS instructions as lane plans: read-modify-write, store, load, exchange, with one address or with
two. `w` is the operand width in bits, 32 or 64; an access of a `w`-bit operand is `w / 8` bytes wide. -/

namespace Sys2Proof.Machine

/-- A read-modify-write of `w` bits (R11, R56): `AtomicRMW(EA, w/8, fun x => op x D0 D1)`. `two` says whether `VDATA1`
is an operand, `rtn` whether the old value goes to `VDST`. -/
def rmwPlan (w : Nat) (two rtn : Bool) (op : BitVec w → BitVec w → BitVec w → BitVec w)
    (f : DsFields) (s : State) : LanePlan :=
  { sources := addrRange f :: data0Range f (w / 32) :: (if two then [data1Range f (w / 32)] else [])
    dest := if rtn then dstRange f (w / 32) else noDst
    accesses := fun l => [access (w / 8) f s l]
    effect := fun l m =>
      let a := access (w / 8) f s l
      let old := s.loadAt (space f) a m
      (s.storeAt (space f) a (op (BitVec.ofNat w old) (data0 w f s l) (data1 w f s l)).toNat m,
        if rtn then toWords (w / 32) old else []) }

/-- A store of `n` bytes from the low end of `k` data registers (R121, R124 to R126). -/
def storePlan (k n : Nat) (f : DsFields) (s : State) : LanePlan :=
  { sources := [addrRange f, data0Range f k]
    dest := noDst
    accesses := fun l => [access n f s l]
    effect := fun l m => (s.storeAt (space f) (access n f s l) (data0 (32 * k) f s l).toNat m, []) }

/-- Two stores of `w` bits at two scaled offsets, `D0` first and `D1` second (R122, R58). -/
def store2Plan (w scale : Nat) (f : DsFields) (s : State) : LanePlan :=
  { sources := [addrRange f, data0Range f (w / 32), data1Range f (w / 32)]
    dest := noDst
    accesses := fun l => [access0 scale (w / 8) f s l, access1 scale (w / 8) f s l]
    effect := fun l m =>
      (s.storeAt (space f) (access1 scale (w / 8) f s l) (data1 w f s l).toNat
        (s.storeAt (space f) (access0 scale (w / 8) f s l) (data0 w f s l).toNat m), []) }

/-- Two exchanges of `w` bits at two scaled offsets, the first at `EA0`; both old values are returned, the one of `EA0`
in the lower-numbered registers (R155, R156, R222, R223). -/
def exchange2Plan (w scale : Nat) (f : DsFields) (s : State) : LanePlan :=
  { sources := [addrRange f, data0Range f (w / 32), data1Range f (w / 32)]
    dest := dstRange f (2 * (w / 32))
    accesses := fun l => [access0 scale (w / 8) f s l, access1 scale (w / 8) f s l]
    effect := fun l m =>
      let a0 := access0 scale (w / 8) f s l
      let a1 := access1 scale (w / 8) f s l
      let m1 := s.storeAt (space f) a0 (data0 w f s l).toNat m
      (s.storeAt (space f) a1 (data1 w f s l).toNat m1,
        toWords (w / 32) (s.loadAt (space f) a0 m) ++ toWords (w / 32) (s.loadAt (space f) a1 m1)) }

/-- A load of `n` bytes into `k` registers, extended by `ext` (R171, R174 to R178). -/
def loadPlan (k n : Nat) (ext : Nat → Nat) (f : DsFields) (s : State) : LanePlan :=
  { sources := [addrRange f]
    dest := dstRange f k
    accesses := fun l => [access n f s l]
    effect := fun l m => (m, toWords k (ext (s.loadAt (space f) (access n f s l) m))) }

/-- Two loads of `w` bits at two scaled offsets, the value of `EA0` in the lower-numbered registers (R172, R173, R179,
R180). -/
def load2Plan (w scale : Nat) (f : DsFields) (s : State) : LanePlan :=
  { sources := [addrRange f]
    dest := dstRange f (2 * (w / 32))
    accesses := fun l => [access0 scale (w / 8) f s l, access1 scale (w / 8) f s l]
    effect := fun l m =>
      (m, toWords (w / 32) (s.loadAt (space f) (access0 scale (w / 8) f s l) m)
        ++ toWords (w / 32) (s.loadAt (space f) (access1 scale (w / 8) f s l) m)) }

/-- Zero extension to 32 bits (R175, R177): the value itself. -/
def zeroExtend (x : Nat) : Nat := x

/-- Sign extension of a `b`-bit value to 32 bits (R174, R176). -/
def signExtend (b : Nat) (x : Nat) : Nat := ((BitVec.ofNat b x).signExtend 32).toNat

end Sys2Proof.Machine
end

