-- ==== Sys2Proof/Machine/Atomic32.lean ====
section
/-! DEFINITION. The 32-bit atomics without return (spec/40_ds_atomic_32.md). -/

namespace Sys2Proof.Machine

/-- `DS_ADD_U32` (R101): 32-bit `x <- x + D0`. -/
def execDsAddU32 (f : DsFields) (s : State) : Result :=
  runPlan .dsAddU32 (space f) (rmwPlan 32 false false Alu.add f s) s

/-- `DS_SUB_U32` (R102): 32-bit `x <- x - D0`. -/
def execDsSubU32 (f : DsFields) (s : State) : Result :=
  runPlan .dsSubU32 (space f) (rmwPlan 32 false false Alu.sub f s) s

/-- `DS_RSUB_U32` (R103): 32-bit `x <- D0 - x`. -/
def execDsRsubU32 (f : DsFields) (s : State) : Result :=
  runPlan .dsRsubU32 (space f) (rmwPlan 32 false false Alu.rsub f s) s

/-- `DS_INC_U32` (R104): 32-bit `x <- x + 1` if `D0 >u x`, else 0. -/
def execDsIncU32 (f : DsFields) (s : State) : Result :=
  runPlan .dsIncU32 (space f) (rmwPlan 32 false false Alu.inc f s) s

/-- `DS_DEC_U32` (R105): 32-bit `x <- x - 1` if `D0 >=u x` and `x ≠ 0`, else `D0`. -/
def execDsDecU32 (f : DsFields) (s : State) : Result :=
  runPlan .dsDecU32 (space f) (rmwPlan 32 false false Alu.dec f s) s

/-- `DS_MIN_I32` (R106): 32-bit `x <- mins(x, D0)`. -/
def execDsMinI32 (f : DsFields) (s : State) : Result :=
  runPlan .dsMinI32 (space f) (rmwPlan 32 false false Alu.minS f s) s

/-- `DS_MAX_I32` (R107): 32-bit `x <- maxs(x, D0)`. -/
def execDsMaxI32 (f : DsFields) (s : State) : Result :=
  runPlan .dsMaxI32 (space f) (rmwPlan 32 false false Alu.maxS f s) s

/-- `DS_MIN_U32` (R108): 32-bit `x <- minu(x, D0)`. -/
def execDsMinU32 (f : DsFields) (s : State) : Result :=
  runPlan .dsMinU32 (space f) (rmwPlan 32 false false Alu.minU f s) s

/-- `DS_MAX_U32` (R109): 32-bit `x <- maxu(x, D0)`. -/
def execDsMaxU32 (f : DsFields) (s : State) : Result :=
  runPlan .dsMaxU32 (space f) (rmwPlan 32 false false Alu.maxU f s) s

/-- `DS_AND_B32` (R110): 32-bit `x <- x & D0`. -/
def execDsAndB32 (f : DsFields) (s : State) : Result :=
  runPlan .dsAndB32 (space f) (rmwPlan 32 false false Alu.and f s) s

/-- `DS_OR_B32` (R111): 32-bit `x <- x | D0`. -/
def execDsOrB32 (f : DsFields) (s : State) : Result :=
  runPlan .dsOrB32 (space f) (rmwPlan 32 false false Alu.or f s) s

/-- `DS_XOR_B32` (R112): 32-bit `x <- x ^ D0`. -/
def execDsXorB32 (f : DsFields) (s : State) : Result :=
  runPlan .dsXorB32 (space f) (rmwPlan 32 false false Alu.xor f s) s

/-- `DS_MSKOR_B32` (R113): 32-bit `x <- (x & ~D0) | D1`. -/
def execDsMskorB32 (f : DsFields) (s : State) : Result :=
  runPlan .dsMskorB32 (space f) (rmwPlan 32 true false Alu.mskor f s) s

/-- `DS_CMPST_B32` (R114; a reading admitted under `ADMIT_GK`): 32-bit `x <- D1` if `x = D0`, else `x`. -/
def execDsCmpstB32 (f : DsFields) (s : State) : Result :=
  runGkPlan .dsCmpstB32 (space f) (rmwPlan 32 true false Alu.cmpst f s) s

/-- `DS_CMPST_F32` (R115): `Refused(undescribed)` whatever `ADMIT_GK` is (R303 item 2). -/
def execDsCmpstF32 (_f : DsFields) (s : State) : Result := undescribed .dsCmpstF32 s

/-- `DS_MIN_F32` (R116): `Refused(undescribed)` whatever `ADMIT_GK` is (R303 item 2). -/
def execDsMinF32 (_f : DsFields) (s : State) : Result := undescribed .dsMinF32 s

/-- `DS_MAX_F32` (R117): `Refused(undescribed)` whatever `ADMIT_GK` is (R303 item 2). -/
def execDsMaxF32 (_f : DsFields) (s : State) : Result := undescribed .dsMaxF32 s

/-- `DS_ADD_F32` (R118): `Refused(undescribed)` whatever `ADMIT_GK` is (R303 item 2). -/
def execDsAddF32 (_f : DsFields) (s : State) : Result := undescribed .dsAddF32 s

end Sys2Proof.Machine
end

