-- ==== Sys2Proof/Machine/Atomic64.lean ====
section
/-! DEFINITION. The 64-bit atomics without return (spec/44_ds_atomic_64.md). -/

namespace Sys2Proof.Machine

/-- `DS_ADD_U64` (R191; a reading admitted under `ADMIT_GK`): 64-bit `x <- x + D0`. -/
def execDsAddU64 (f : DsFields) (s : State) : Result :=
  runGkPlan .dsAddU64 (space f) (rmwPlan 64 false false Alu.add f s) s

/-- `DS_SUB_U64` (R192; a reading admitted under `ADMIT_GK`): 64-bit `x <- x - D0`. -/
def execDsSubU64 (f : DsFields) (s : State) : Result :=
  runGkPlan .dsSubU64 (space f) (rmwPlan 64 false false Alu.sub f s) s

/-- `DS_RSUB_U64` (R193; a reading admitted under `ADMIT_GK`): 64-bit `x <- D0 - x`. -/
def execDsRsubU64 (f : DsFields) (s : State) : Result :=
  runGkPlan .dsRsubU64 (space f) (rmwPlan 64 false false Alu.rsub f s) s

/-- `DS_INC_U64` (R194; a reading admitted under `ADMIT_GK`): 64-bit `x <- x + 1` if `D0 >u x`, else 0. -/
def execDsIncU64 (f : DsFields) (s : State) : Result :=
  runGkPlan .dsIncU64 (space f) (rmwPlan 64 false false Alu.inc f s) s

/-- `DS_DEC_U64` (R195; a reading admitted under `ADMIT_GK`): 64-bit `x <- x - 1` if `D0 >=u x` and `x ≠ 0`, else `D0`. -/
def execDsDecU64 (f : DsFields) (s : State) : Result :=
  runGkPlan .dsDecU64 (space f) (rmwPlan 64 false false Alu.dec f s) s

/-- `DS_MIN_I64` (R196; a reading admitted under `ADMIT_GK`): 64-bit `x <- mins(x, D0)`. -/
def execDsMinI64 (f : DsFields) (s : State) : Result :=
  runGkPlan .dsMinI64 (space f) (rmwPlan 64 false false Alu.minS f s) s

/-- `DS_MAX_I64` (R197; a reading admitted under `ADMIT_GK`): 64-bit `x <- maxs(x, D0)`. -/
def execDsMaxI64 (f : DsFields) (s : State) : Result :=
  runGkPlan .dsMaxI64 (space f) (rmwPlan 64 false false Alu.maxS f s) s

/-- `DS_MIN_U64` (R198; a reading admitted under `ADMIT_GK`): 64-bit `x <- minu(x, D0)`. -/
def execDsMinU64 (f : DsFields) (s : State) : Result :=
  runGkPlan .dsMinU64 (space f) (rmwPlan 64 false false Alu.minU f s) s

/-- `DS_MAX_U64` (R199; a reading admitted under `ADMIT_GK`): 64-bit `x <- maxu(x, D0)`. -/
def execDsMaxU64 (f : DsFields) (s : State) : Result :=
  runGkPlan .dsMaxU64 (space f) (rmwPlan 64 false false Alu.maxU f s) s

/-- `DS_AND_B64` (R200; a reading admitted under `ADMIT_GK`): 64-bit `x <- x & D0`. -/
def execDsAndB64 (f : DsFields) (s : State) : Result :=
  runGkPlan .dsAndB64 (space f) (rmwPlan 64 false false Alu.and f s) s

/-- `DS_OR_B64` (R201; a reading admitted under `ADMIT_GK`): 64-bit `x <- x | D0`. -/
def execDsOrB64 (f : DsFields) (s : State) : Result :=
  runGkPlan .dsOrB64 (space f) (rmwPlan 64 false false Alu.or f s) s

/-- `DS_XOR_B64` (R202; a reading admitted under `ADMIT_GK`): 64-bit `x <- x ^ D0`. -/
def execDsXorB64 (f : DsFields) (s : State) : Result :=
  runGkPlan .dsXorB64 (space f) (rmwPlan 64 false false Alu.xor f s) s

/-- `DS_MSKOR_B64` (R203; a reading admitted under `ADMIT_GK`): 64-bit `x <- (x & ~D0) | D1`. -/
def execDsMskorB64 (f : DsFields) (s : State) : Result :=
  runGkPlan .dsMskorB64 (space f) (rmwPlan 64 true false Alu.mskor f s) s

/-- `DS_CMPST_B64` (R204; a reading admitted under `ADMIT_GK`): 64-bit `x <- D1` if `x = D0`, else `x`. -/
def execDsCmpstB64 (f : DsFields) (s : State) : Result :=
  runGkPlan .dsCmpstB64 (space f) (rmwPlan 64 true false Alu.cmpst f s) s

/-- `DS_CMPST_F64` (R205): `Refused(undescribed)` whatever `ADMIT_GK` is (R303 item 2). -/
def execDsCmpstF64 (_f : DsFields) (s : State) : Result := undescribed .dsCmpstF64 s

/-- `DS_MIN_F64` (R206): `Refused(undescribed)` whatever `ADMIT_GK` is (R303 item 2). -/
def execDsMinF64 (_f : DsFields) (s : State) : Result := undescribed .dsMinF64 s

/-- `DS_MAX_F64` (R207): `Refused(undescribed)` whatever `ADMIT_GK` is (R303 item 2). -/
def execDsMaxF64 (_f : DsFields) (s : State) : Result := undescribed .dsMaxF64 s

end Sys2Proof.Machine
end

