-- ==== Sys2Proof/Machine/AtomicRtn32.lean ====
section
/-! DEFINITION. The 32-bit atomics that return the old value (spec/42_ds_atomic_rtn_32.md). -/

namespace Sys2Proof.Machine

/-- `DS_ADD_RTN_U32` (R141; a reading admitted under `ADMIT_GK`): 32-bit `x <- x + D0`, the old value to `VDST`. -/
def execDsAddRtnU32 (f : DsFields) (s : State) : Result :=
  runGkPlan .dsAddRtnU32 (space f) (rmwPlan 32 false true Alu.add f s) s

/-- `DS_SUB_RTN_U32` (R142; a reading admitted under `ADMIT_GK`): 32-bit `x <- x - D0`, the old value to `VDST`. -/
def execDsSubRtnU32 (f : DsFields) (s : State) : Result :=
  runGkPlan .dsSubRtnU32 (space f) (rmwPlan 32 false true Alu.sub f s) s

/-- `DS_RSUB_RTN_U32` (R143; a reading admitted under `ADMIT_GK`): 32-bit `x <- D0 - x`, the old value to `VDST`. -/
def execDsRsubRtnU32 (f : DsFields) (s : State) : Result :=
  runGkPlan .dsRsubRtnU32 (space f) (rmwPlan 32 false true Alu.rsub f s) s

/-- `DS_INC_RTN_U32` (R144; a reading admitted under `ADMIT_GK`): 32-bit `x <- x + 1` if `D0 >u x`, else 0, the old value to `VDST`. -/
def execDsIncRtnU32 (f : DsFields) (s : State) : Result :=
  runGkPlan .dsIncRtnU32 (space f) (rmwPlan 32 false true Alu.inc f s) s

/-- `DS_DEC_RTN_U32` (R145; a reading admitted under `ADMIT_GK`): 32-bit `x <- x - 1` if `D0 >=u x` and `x ≠ 0`, else `D0`, the old value to `VDST`. -/
def execDsDecRtnU32 (f : DsFields) (s : State) : Result :=
  runGkPlan .dsDecRtnU32 (space f) (rmwPlan 32 false true Alu.dec f s) s

/-- `DS_MIN_RTN_I32` (R146; a reading admitted under `ADMIT_GK`): 32-bit `x <- mins(x, D0)`, the old value to `VDST`. -/
def execDsMinRtnI32 (f : DsFields) (s : State) : Result :=
  runGkPlan .dsMinRtnI32 (space f) (rmwPlan 32 false true Alu.minS f s) s

/-- `DS_MAX_RTN_I32` (R147; a reading admitted under `ADMIT_GK`): 32-bit `x <- maxs(x, D0)`, the old value to `VDST`. -/
def execDsMaxRtnI32 (f : DsFields) (s : State) : Result :=
  runGkPlan .dsMaxRtnI32 (space f) (rmwPlan 32 false true Alu.maxS f s) s

/-- `DS_MIN_RTN_U32` (R148; a reading admitted under `ADMIT_GK`): 32-bit `x <- minu(x, D0)`, the old value to `VDST`. -/
def execDsMinRtnU32 (f : DsFields) (s : State) : Result :=
  runGkPlan .dsMinRtnU32 (space f) (rmwPlan 32 false true Alu.minU f s) s

/-- `DS_MAX_RTN_U32` (R149; a reading admitted under `ADMIT_GK`): 32-bit `x <- maxu(x, D0)`, the old value to `VDST`. -/
def execDsMaxRtnU32 (f : DsFields) (s : State) : Result :=
  runGkPlan .dsMaxRtnU32 (space f) (rmwPlan 32 false true Alu.maxU f s) s

/-- `DS_AND_RTN_B32` (R150; a reading admitted under `ADMIT_GK`): 32-bit `x <- x & D0`, the old value to `VDST`. -/
def execDsAndRtnB32 (f : DsFields) (s : State) : Result :=
  runGkPlan .dsAndRtnB32 (space f) (rmwPlan 32 false true Alu.and f s) s

/-- `DS_OR_RTN_B32` (R151; a reading admitted under `ADMIT_GK`): 32-bit `x <- x | D0`, the old value to `VDST`. -/
def execDsOrRtnB32 (f : DsFields) (s : State) : Result :=
  runGkPlan .dsOrRtnB32 (space f) (rmwPlan 32 false true Alu.or f s) s

/-- `DS_XOR_RTN_B32` (R152; a reading admitted under `ADMIT_GK`): 32-bit `x <- x ^ D0`, the old value to `VDST`. -/
def execDsXorRtnB32 (f : DsFields) (s : State) : Result :=
  runGkPlan .dsXorRtnB32 (space f) (rmwPlan 32 false true Alu.xor f s) s

/-- `DS_MSKOR_RTN_B32` (R153; a reading admitted under `ADMIT_GK`): 32-bit `x <- (x & ~D0) | D1`, the old value to `VDST`. -/
def execDsMskorRtnB32 (f : DsFields) (s : State) : Result :=
  runGkPlan .dsMskorRtnB32 (space f) (rmwPlan 32 true true Alu.mskor f s) s

/-- `DS_WRXCHG_RTN_B32` (R154; a reading admitted under `ADMIT_GK`): 32-bit `x <- D0`, the old value to `VDST`. -/
def execDsWrxchgRtnB32 (f : DsFields) (s : State) : Result :=
  runGkPlan .dsWrxchgRtnB32 (space f) (rmwPlan 32 false true Alu.wrxchg f s) s

/-- `DS_WRXCHG2_RTN_B32` (R155; a reading admitted under `ADMIT_GK`): two 32-bit exchanges, offsets scaled by 4. -/
def execDsWrxchg2RtnB32 (f : DsFields) (s : State) : Result :=
  runGkPlan .dsWrxchg2RtnB32 (space f) (exchange2Plan 32 4 f s) s

/-- `DS_WRXCHG2ST64_RTN_B32` (R156; a reading admitted under `ADMIT_GK`): two 32-bit exchanges, offsets scaled by 256. -/
def execDsWrxchg2st64RtnB32 (f : DsFields) (s : State) : Result :=
  runGkPlan .dsWrxchg2st64RtnB32 (space f) (exchange2Plan 32 256 f s) s

/-- `DS_CMPST_RTN_B32` (R157; a reading admitted under `ADMIT_GK`): 32-bit `x <- D1` if `x = D0`, else `x`, the old value to `VDST`. -/
def execDsCmpstRtnB32 (f : DsFields) (s : State) : Result :=
  runGkPlan .dsCmpstRtnB32 (space f) (rmwPlan 32 true true Alu.cmpst f s) s

/-- `DS_CMPST_RTN_F32` (R158): `Refused(undescribed)` whatever `ADMIT_GK` is (R303 item 2). -/
def execDsCmpstRtnF32 (_f : DsFields) (s : State) : Result := undescribed .dsCmpstRtnF32 s

/-- `DS_MIN_RTN_F32` (R159): `Refused(undescribed)` whatever `ADMIT_GK` is (R303 item 2). -/
def execDsMinRtnF32 (_f : DsFields) (s : State) : Result := undescribed .dsMinRtnF32 s

/-- `DS_MAX_RTN_F32` (R160): `Refused(undescribed)` whatever `ADMIT_GK` is (R303 item 2). -/
def execDsMaxRtnF32 (_f : DsFields) (s : State) : Result := undescribed .dsMaxRtnF32 s

/-- `DS_WRAP_RTN_B32` (R161): `Refused(undescribed)` whatever `ADMIT_GK` is (R303 item 2). -/
def execDsWrapRtnB32 (_f : DsFields) (s : State) : Result := undescribed .dsWrapRtnB32 s

/-- `DS_ADD_RTN_F32` (R162): `Refused(undescribed)` whatever `ADMIT_GK` is (R303 item 2). -/
def execDsAddRtnF32 (_f : DsFields) (s : State) : Result := undescribed .dsAddRtnF32 s

end Sys2Proof.Machine
end

