-- ==== Sys2Proof/Machine/AtomicRtn64.lean ====
section
/-! DEFINITION. The 64-bit atomics that return the old value (spec/45_ds_atomic_rtn_64.md). -/

namespace Sys2Proof.Machine

/-- `DS_ADD_RTN_U64` (R208; a reading admitted under `ADMIT_GK`): 64-bit `x <- x + D0`, the old value to `VDST`. -/
def execDsAddRtnU64 (f : DsFields) (s : State) : Result :=
  runGkPlan .dsAddRtnU64 (space f) (rmwPlan 64 false true Alu.add f s) s

/-- `DS_SUB_RTN_U64` (R209; a reading admitted under `ADMIT_GK`): 64-bit `x <- x - D0`, the old value to `VDST`. -/
def execDsSubRtnU64 (f : DsFields) (s : State) : Result :=
  runGkPlan .dsSubRtnU64 (space f) (rmwPlan 64 false true Alu.sub f s) s

/-- `DS_RSUB_RTN_U64` (R210; a reading admitted under `ADMIT_GK`): 64-bit `x <- D0 - x`, the old value to `VDST`. -/
def execDsRsubRtnU64 (f : DsFields) (s : State) : Result :=
  runGkPlan .dsRsubRtnU64 (space f) (rmwPlan 64 false true Alu.rsub f s) s

/-- `DS_INC_RTN_U64` (R211; a reading admitted under `ADMIT_GK`): 64-bit `x <- x + 1` if `D0 >u x`, else 0, the old value to `VDST`. -/
def execDsIncRtnU64 (f : DsFields) (s : State) : Result :=
  runGkPlan .dsIncRtnU64 (space f) (rmwPlan 64 false true Alu.inc f s) s

/-- `DS_DEC_RTN_U64` (R212; a reading admitted under `ADMIT_GK`): 64-bit `x <- x - 1` if `D0 >=u x` and `x ≠ 0`, else `D0`, the old value to `VDST`. -/
def execDsDecRtnU64 (f : DsFields) (s : State) : Result :=
  runGkPlan .dsDecRtnU64 (space f) (rmwPlan 64 false true Alu.dec f s) s

/-- `DS_MIN_RTN_I64` (R213; a reading admitted under `ADMIT_GK`): 64-bit `x <- mins(x, D0)`, the old value to `VDST`. -/
def execDsMinRtnI64 (f : DsFields) (s : State) : Result :=
  runGkPlan .dsMinRtnI64 (space f) (rmwPlan 64 false true Alu.minS f s) s

/-- `DS_MAX_RTN_I64` (R214; a reading admitted under `ADMIT_GK`): 64-bit `x <- maxs(x, D0)`, the old value to `VDST`. -/
def execDsMaxRtnI64 (f : DsFields) (s : State) : Result :=
  runGkPlan .dsMaxRtnI64 (space f) (rmwPlan 64 false true Alu.maxS f s) s

/-- `DS_MIN_RTN_U64` (R215; a reading admitted under `ADMIT_GK`): 64-bit `x <- minu(x, D0)`, the old value to `VDST`. -/
def execDsMinRtnU64 (f : DsFields) (s : State) : Result :=
  runGkPlan .dsMinRtnU64 (space f) (rmwPlan 64 false true Alu.minU f s) s

/-- `DS_MAX_RTN_U64` (R216; a reading admitted under `ADMIT_GK`): 64-bit `x <- maxu(x, D0)`, the old value to `VDST`. -/
def execDsMaxRtnU64 (f : DsFields) (s : State) : Result :=
  runGkPlan .dsMaxRtnU64 (space f) (rmwPlan 64 false true Alu.maxU f s) s

/-- `DS_AND_RTN_B64` (R217; a reading admitted under `ADMIT_GK`): 64-bit `x <- x & D0`, the old value to `VDST`. -/
def execDsAndRtnB64 (f : DsFields) (s : State) : Result :=
  runGkPlan .dsAndRtnB64 (space f) (rmwPlan 64 false true Alu.and f s) s

/-- `DS_OR_RTN_B64` (R218; a reading admitted under `ADMIT_GK`): 64-bit `x <- x | D0`, the old value to `VDST`. -/
def execDsOrRtnB64 (f : DsFields) (s : State) : Result :=
  runGkPlan .dsOrRtnB64 (space f) (rmwPlan 64 false true Alu.or f s) s

/-- `DS_XOR_RTN_B64` (R219; a reading admitted under `ADMIT_GK`): 64-bit `x <- x ^ D0`, the old value to `VDST`. -/
def execDsXorRtnB64 (f : DsFields) (s : State) : Result :=
  runGkPlan .dsXorRtnB64 (space f) (rmwPlan 64 false true Alu.xor f s) s

/-- `DS_MSKOR_RTN_B64` (R220; a reading admitted under `ADMIT_GK`): 64-bit `x <- (x & ~D0) | D1`, the old value to `VDST`. -/
def execDsMskorRtnB64 (f : DsFields) (s : State) : Result :=
  runGkPlan .dsMskorRtnB64 (space f) (rmwPlan 64 true true Alu.mskor f s) s

/-- `DS_WRXCHG_RTN_B64` (R221; a reading admitted under `ADMIT_GK`): 64-bit `x <- D0`, the old value to `VDST`. -/
def execDsWrxchgRtnB64 (f : DsFields) (s : State) : Result :=
  runGkPlan .dsWrxchgRtnB64 (space f) (rmwPlan 64 false true Alu.wrxchg f s) s

/-- `DS_WRXCHG2_RTN_B64` (R222; a reading admitted under `ADMIT_GK`): two 64-bit exchanges, offsets scaled by 8. -/
def execDsWrxchg2RtnB64 (f : DsFields) (s : State) : Result :=
  runGkPlan .dsWrxchg2RtnB64 (space f) (exchange2Plan 64 8 f s) s

/-- `DS_WRXCHG2ST64_RTN_B64` (R223; a reading admitted under `ADMIT_GK`): two 64-bit exchanges, offsets scaled by 512. -/
def execDsWrxchg2st64RtnB64 (f : DsFields) (s : State) : Result :=
  runGkPlan .dsWrxchg2st64RtnB64 (space f) (exchange2Plan 64 512 f s) s

/-- `DS_CMPST_RTN_B64` (R224; a reading admitted under `ADMIT_GK`): 64-bit `x <- D1` if `x = D0`, else `x`, the old value to `VDST`. -/
def execDsCmpstRtnB64 (f : DsFields) (s : State) : Result :=
  runGkPlan .dsCmpstRtnB64 (space f) (rmwPlan 64 true true Alu.cmpst f s) s

/-- `DS_CMPST_RTN_F64` (R225): `Refused(undescribed)` whatever `ADMIT_GK` is (R303 item 2). -/
def execDsCmpstRtnF64 (_f : DsFields) (s : State) : Result := undescribed .dsCmpstRtnF64 s

/-- `DS_MIN_RTN_F64` (R226): `Refused(undescribed)` whatever `ADMIT_GK` is (R303 item 2). -/
def execDsMinRtnF64 (_f : DsFields) (s : State) : Result := undescribed .dsMinRtnF64 s

/-- `DS_MAX_RTN_F64` (R227): `Refused(undescribed)` whatever `ADMIT_GK` is (R303 item 2). -/
def execDsMaxRtnF64 (_f : DsFields) (s : State) : Result := undescribed .dsMaxRtnF64 s

/-- `DS_CONDXCHG32_RTN_B64` (R228): `Refused(undescribed)` whatever `ADMIT_GK` is (R303 item 2). -/
def execDsCondxchg32RtnB64 (_f : DsFields) (s : State) : Result := undescribed .dsCondxchg32RtnB64 s

/-- `DS_CONDXCHG32_RTN_B128` (R229): `Refused(undescribed)` whatever `ADMIT_GK` is (R303 item 2). -/
def execDsCondxchg32RtnB128 (_f : DsFields) (s : State) : Result := undescribed .dsCondxchg32RtnB128 s

end Sys2Proof.Machine
end

