-- ==== Sys2Proof/Machine/Read.lean ====
section
/-! DEFINITION. The loads (spec/43_ds_read.md). -/

namespace Sys2Proof.Machine

/-- `DS_READ_B32` (R171; a reading admitted under `ADMIT_GK`): load 32 bits. -/
def execDsReadB32 (f : DsFields) (s : State) : Result :=
  runGkPlan .dsReadB32 (space f) (loadPlan 1 4 zeroExtend f s) s

/-- `DS_READ2_B32` (R172; a reading admitted under `ADMIT_GK`): two 32-bit loads, offsets scaled by 4. -/
def execDsRead2B32 (f : DsFields) (s : State) : Result :=
  runGkPlan .dsRead2B32 (space f) (load2Plan 32 4 f s) s

/-- `DS_READ2ST64_B32` (R173; a reading admitted under `ADMIT_GK`): two 32-bit loads, offsets scaled by 256. -/
def execDsRead2st64B32 (f : DsFields) (s : State) : Result :=
  runGkPlan .dsRead2st64B32 (space f) (load2Plan 32 256 f s) s

/-- `DS_READ_I8` (R174; a reading admitted under `ADMIT_GK`): load 8 bits, sign-extended. -/
def execDsReadI8 (f : DsFields) (s : State) : Result :=
  runGkPlan .dsReadI8 (space f) (loadPlan 1 1 (signExtend 8) f s) s

/-- `DS_READ_U8` (R175; a reading admitted under `ADMIT_GK`): load 8 bits, zero-extended. -/
def execDsReadU8 (f : DsFields) (s : State) : Result :=
  runGkPlan .dsReadU8 (space f) (loadPlan 1 1 zeroExtend f s) s

/-- `DS_READ_I16` (R176; a reading admitted under `ADMIT_GK`): load 16 bits, sign-extended. -/
def execDsReadI16 (f : DsFields) (s : State) : Result :=
  runGkPlan .dsReadI16 (space f) (loadPlan 1 2 (signExtend 16) f s) s

/-- `DS_READ_U16` (R177; a reading admitted under `ADMIT_GK`): load 16 bits, zero-extended. -/
def execDsReadU16 (f : DsFields) (s : State) : Result :=
  runGkPlan .dsReadU16 (space f) (loadPlan 1 2 zeroExtend f s) s

/-- `DS_READ_B64` (R178; a reading admitted under `ADMIT_GK`): load 64 bits. -/
def execDsReadB64 (f : DsFields) (s : State) : Result :=
  runGkPlan .dsReadB64 (space f) (loadPlan 2 8 zeroExtend f s) s

/-- `DS_READ2_B64` (R179; a reading admitted under `ADMIT_GK`): two 64-bit loads, offsets scaled by 8. -/
def execDsRead2B64 (f : DsFields) (s : State) : Result :=
  runGkPlan .dsRead2B64 (space f) (load2Plan 64 8 f s) s

/-- `DS_READ2ST64_B64` (R180; a reading admitted under `ADMIT_GK`): two 64-bit loads, offsets scaled by 512. -/
def execDsRead2st64B64 (f : DsFields) (s : State) : Result :=
  runGkPlan .dsRead2st64B64 (space f) (load2Plan 64 512 f s) s

/-- `DS_READ_B96` (R181): `Refused(undescribed)` whatever `ADMIT_GK` is (R303 item 2). -/
def execDsReadB96 (_f : DsFields) (s : State) : Result := undescribed .dsReadB96 s

/-- `DS_READ_B128` (R182): `Refused(undescribed)` whatever `ADMIT_GK` is (R303 item 2). -/
def execDsReadB128 (_f : DsFields) (s : State) : Result := undescribed .dsReadB128 s

end Sys2Proof.Machine
end

