-- ==== Sys2Proof/Machine/Src2.lean ====
section
/-! DEFINITION. The instructions with both operands in the data share (spec/46_ds_src2.md): each is refused whatever
`ADMIT_GK` is (R303 item 2). -/

namespace Sys2Proof.Machine

/-- `DS_ADD_SRC2_U32` (R241): `Refused(undescribed)` whatever `ADMIT_GK` is (R303 item 2). -/
def execDsAddSrc2U32 (_f : DsFields) (s : State) : Result := undescribed .dsAddSrc2U32 s

/-- `DS_SUB_SRC2_U32` (R242): `Refused(undescribed)` whatever `ADMIT_GK` is (R303 item 2). -/
def execDsSubSrc2U32 (_f : DsFields) (s : State) : Result := undescribed .dsSubSrc2U32 s

/-- `DS_RSUB_SRC2_U32` (R243): `Refused(undescribed)` whatever `ADMIT_GK` is (R303 item 2). -/
def execDsRsubSrc2U32 (_f : DsFields) (s : State) : Result := undescribed .dsRsubSrc2U32 s

/-- `DS_INC_SRC2_U32` (R244): `Refused(undescribed)` whatever `ADMIT_GK` is (R303 item 2). -/
def execDsIncSrc2U32 (_f : DsFields) (s : State) : Result := undescribed .dsIncSrc2U32 s

/-- `DS_DEC_SRC2_U32` (R245): `Refused(undescribed)` whatever `ADMIT_GK` is (R303 item 2). -/
def execDsDecSrc2U32 (_f : DsFields) (s : State) : Result := undescribed .dsDecSrc2U32 s

/-- `DS_MIN_SRC2_I32` (R246): `Refused(undescribed)` whatever `ADMIT_GK` is (R303 item 2). -/
def execDsMinSrc2I32 (_f : DsFields) (s : State) : Result := undescribed .dsMinSrc2I32 s

/-- `DS_MAX_SRC2_I32` (R247): `Refused(undescribed)` whatever `ADMIT_GK` is (R303 item 2). -/
def execDsMaxSrc2I32 (_f : DsFields) (s : State) : Result := undescribed .dsMaxSrc2I32 s

/-- `DS_MIN_SRC2_U32` (R248): `Refused(undescribed)` whatever `ADMIT_GK` is (R303 item 2). -/
def execDsMinSrc2U32 (_f : DsFields) (s : State) : Result := undescribed .dsMinSrc2U32 s

/-- `DS_MAX_SRC2_U32` (R249): `Refused(undescribed)` whatever `ADMIT_GK` is (R303 item 2). -/
def execDsMaxSrc2U32 (_f : DsFields) (s : State) : Result := undescribed .dsMaxSrc2U32 s

/-- `DS_AND_SRC2_B32` (R250): `Refused(undescribed)` whatever `ADMIT_GK` is (R303 item 2). -/
def execDsAndSrc2B32 (_f : DsFields) (s : State) : Result := undescribed .dsAndSrc2B32 s

/-- `DS_OR_SRC2_B32` (R251): `Refused(undescribed)` whatever `ADMIT_GK` is (R303 item 2). -/
def execDsOrSrc2B32 (_f : DsFields) (s : State) : Result := undescribed .dsOrSrc2B32 s

/-- `DS_XOR_SRC2_B32` (R252): `Refused(undescribed)` whatever `ADMIT_GK` is (R303 item 2). -/
def execDsXorSrc2B32 (_f : DsFields) (s : State) : Result := undescribed .dsXorSrc2B32 s

/-- `DS_WRITE_SRC2_B32` (R253): `Refused(undescribed)` whatever `ADMIT_GK` is (R303 item 2). -/
def execDsWriteSrc2B32 (_f : DsFields) (s : State) : Result := undescribed .dsWriteSrc2B32 s

/-- `DS_MIN_SRC2_F32` (R254): `Refused(undescribed)` whatever `ADMIT_GK` is (R303 item 2). -/
def execDsMinSrc2F32 (_f : DsFields) (s : State) : Result := undescribed .dsMinSrc2F32 s

/-- `DS_MAX_SRC2_F32` (R255): `Refused(undescribed)` whatever `ADMIT_GK` is (R303 item 2). -/
def execDsMaxSrc2F32 (_f : DsFields) (s : State) : Result := undescribed .dsMaxSrc2F32 s

/-- `DS_ADD_SRC2_F32` (R256): `Refused(undescribed)` whatever `ADMIT_GK` is (R303 item 2). -/
def execDsAddSrc2F32 (_f : DsFields) (s : State) : Result := undescribed .dsAddSrc2F32 s

/-- `DS_ADD_SRC2_U64` (R257): `Refused(undescribed)` whatever `ADMIT_GK` is (R303 item 2). -/
def execDsAddSrc2U64 (_f : DsFields) (s : State) : Result := undescribed .dsAddSrc2U64 s

/-- `DS_SUB_SRC2_U64` (R258): `Refused(undescribed)` whatever `ADMIT_GK` is (R303 item 2). -/
def execDsSubSrc2U64 (_f : DsFields) (s : State) : Result := undescribed .dsSubSrc2U64 s

/-- `DS_RSUB_SRC2_U64` (R259): `Refused(undescribed)` whatever `ADMIT_GK` is (R303 item 2). -/
def execDsRsubSrc2U64 (_f : DsFields) (s : State) : Result := undescribed .dsRsubSrc2U64 s

/-- `DS_INC_SRC2_U64` (R260): `Refused(undescribed)` whatever `ADMIT_GK` is (R303 item 2). -/
def execDsIncSrc2U64 (_f : DsFields) (s : State) : Result := undescribed .dsIncSrc2U64 s

/-- `DS_DEC_SRC2_U64` (R261): `Refused(undescribed)` whatever `ADMIT_GK` is (R303 item 2). -/
def execDsDecSrc2U64 (_f : DsFields) (s : State) : Result := undescribed .dsDecSrc2U64 s

/-- `DS_MIN_SRC2_I64` (R262): `Refused(undescribed)` whatever `ADMIT_GK` is (R303 item 2). -/
def execDsMinSrc2I64 (_f : DsFields) (s : State) : Result := undescribed .dsMinSrc2I64 s

/-- `DS_MAX_SRC2_I64` (R263): `Refused(undescribed)` whatever `ADMIT_GK` is (R303 item 2). -/
def execDsMaxSrc2I64 (_f : DsFields) (s : State) : Result := undescribed .dsMaxSrc2I64 s

/-- `DS_MIN_SRC2_U64` (R264): `Refused(undescribed)` whatever `ADMIT_GK` is (R303 item 2). -/
def execDsMinSrc2U64 (_f : DsFields) (s : State) : Result := undescribed .dsMinSrc2U64 s

/-- `DS_MAX_SRC2_U64` (R265): `Refused(undescribed)` whatever `ADMIT_GK` is (R303 item 2). -/
def execDsMaxSrc2U64 (_f : DsFields) (s : State) : Result := undescribed .dsMaxSrc2U64 s

/-- `DS_AND_SRC2_B64` (R266): `Refused(undescribed)` whatever `ADMIT_GK` is (R303 item 2). -/
def execDsAndSrc2B64 (_f : DsFields) (s : State) : Result := undescribed .dsAndSrc2B64 s

/-- `DS_OR_SRC2_B64` (R267): `Refused(undescribed)` whatever `ADMIT_GK` is (R303 item 2). -/
def execDsOrSrc2B64 (_f : DsFields) (s : State) : Result := undescribed .dsOrSrc2B64 s

/-- `DS_XOR_SRC2_B64` (R268): `Refused(undescribed)` whatever `ADMIT_GK` is (R303 item 2). -/
def execDsXorSrc2B64 (_f : DsFields) (s : State) : Result := undescribed .dsXorSrc2B64 s

/-- `DS_WRITE_SRC2_B64` (R269): `Refused(undescribed)` whatever `ADMIT_GK` is (R303 item 2). -/
def execDsWriteSrc2B64 (_f : DsFields) (s : State) : Result := undescribed .dsWriteSrc2B64 s

/-- `DS_MIN_SRC2_F64` (R270): `Refused(undescribed)` whatever `ADMIT_GK` is (R303 item 2). -/
def execDsMinSrc2F64 (_f : DsFields) (s : State) : Result := undescribed .dsMinSrc2F64 s

/-- `DS_MAX_SRC2_F64` (R271): `Refused(undescribed)` whatever `ADMIT_GK` is (R303 item 2). -/
def execDsMaxSrc2F64 (_f : DsFields) (s : State) : Result := undescribed .dsMaxSrc2F64 s

end Sys2Proof.Machine
end

