-- ==== Sys2Proof/Machine/SyncLaneMisc.lean ====
section
/-! DEFINITION. No operation, wave synchronisation, counters and lane exchange (spec/47_ds_sync_lane_misc.md). -/

namespace Sys2Proof.Machine

/-- `DS_NOP` (R281), a reading admitted under `ADMIT_GK`: nothing is read or written for any lane, `pc <- pc + 8`; it has no
operands and no outcome of its own. -/
def execDsNop (_f : DsFields) (s : State) : Result :=
  if s.params.admitGk then .next s.advance else undescribed .dsNop s

/-- `DS_GWS_SEMA_RELEASE_ALL` (R282): `Refused(undescribed)` whatever `ADMIT_GK` is (R303 item 2). -/
def execDsGwsSemaReleaseAll (_f : DsFields) (s : State) : Result := undescribed .dsGwsSemaReleaseAll s

/-- `DS_GWS_INIT` (R283): `Refused(undescribed)` whatever `ADMIT_GK` is (R303 item 2). -/
def execDsGwsInit (_f : DsFields) (s : State) : Result := undescribed .dsGwsInit s

/-- `DS_GWS_SEMA_V` (R284): `Refused(undescribed)` whatever `ADMIT_GK` is (R303 item 2). -/
def execDsGwsSemaV (_f : DsFields) (s : State) : Result := undescribed .dsGwsSemaV s

/-- `DS_GWS_SEMA_BR` (R285): `Refused(undescribed)` whatever `ADMIT_GK` is (R303 item 2). -/
def execDsGwsSemaBr (_f : DsFields) (s : State) : Result := undescribed .dsGwsSemaBr s

/-- `DS_GWS_SEMA_P` (R286): `Refused(undescribed)` whatever `ADMIT_GK` is (R303 item 2). -/
def execDsGwsSemaP (_f : DsFields) (s : State) : Result := undescribed .dsGwsSemaP s

/-- `DS_GWS_BARRIER` (R287): `Refused(undescribed)` whatever `ADMIT_GK` is (R303 item 2). -/
def execDsGwsBarrier (_f : DsFields) (s : State) : Result := undescribed .dsGwsBarrier s

/-- `DS_SWIZZLE_B32` (R288): `Refused(undescribed)` whatever `ADMIT_GK` is (R303 item 2). -/
def execDsSwizzleB32 (_f : DsFields) (s : State) : Result := undescribed .dsSwizzleB32 s

/-- `DS_CONSUME` (R289): `Refused(undescribed)` whatever `ADMIT_GK` is (R303 item 2). -/
def execDsConsume (_f : DsFields) (s : State) : Result := undescribed .dsConsume s

/-- `DS_APPEND` (R290): `Refused(undescribed)` whatever `ADMIT_GK` is (R303 item 2). -/
def execDsAppend (_f : DsFields) (s : State) : Result := undescribed .dsAppend s

/-- `DS_PERMUTE_B32` (R292): `Refused(undescribed)` whatever `ADMIT_GK` is (R303 item 2). -/
def execDsPermuteB32 (_f : DsFields) (s : State) : Result := undescribed .dsPermuteB32 s

/-- `DS_ORDERED_COUNT` (R291): `Refused(undescribed)` whatever `ADMIT_GK` is (R303 item 2). -/
def execDsOrderedCount (_f : DsFields) (s : State) : Result := undescribed .dsOrderedCount s

/-- `DS_BPERMUTE_B32` (R293): `Refused(undescribed)` whatever `ADMIT_GK` is (R303 item 2). -/
def execDsBpermuteB32 (_f : DsFields) (s : State) : Result := undescribed .dsBpermuteB32 s

end Sys2Proof.Machine
end

