-- ==== Sys2Proof/Machine/Write.lean ====
section
/-! DEFINITION. The stores (spec/41_ds_write.md). -/

namespace Sys2Proof.Machine

/-- `DS_WRITE_B32` (R121): store the low 32 bits of the data. -/
def execDsWriteB32 (f : DsFields) (s : State) : Result :=
  runPlan .dsWriteB32 (space f) (storePlan 1 4 f s) s

/-- `DS_WRITE2_B32` (R122): two 32-bit stores, offsets scaled by 4. -/
def execDsWrite2B32 (f : DsFields) (s : State) : Result :=
  runPlan .dsWrite2B32 (space f) (store2Plan 32 4 f s) s

/-- `DS_WRITE2ST64_B32` (R123; a reading admitted under `ADMIT_GK`): two 32-bit stores, offsets scaled by 256. -/
def execDsWrite2st64B32 (f : DsFields) (s : State) : Result :=
  runGkPlan .dsWrite2st64B32 (space f) (store2Plan 32 256 f s) s

/-- `DS_WRITE_B8` (R124; a reading admitted under `ADMIT_GK`): store the low 8 bits of the data. -/
def execDsWriteB8 (f : DsFields) (s : State) : Result :=
  runGkPlan .dsWriteB8 (space f) (storePlan 1 1 f s) s

/-- `DS_WRITE_B16` (R125; a reading admitted under `ADMIT_GK`): store the low 16 bits of the data. -/
def execDsWriteB16 (f : DsFields) (s : State) : Result :=
  runGkPlan .dsWriteB16 (space f) (storePlan 1 2 f s) s

/-- `DS_WRITE_B64` (R126; a reading admitted under `ADMIT_GK`): store the low 64 bits of the data. -/
def execDsWriteB64 (f : DsFields) (s : State) : Result :=
  runGkPlan .dsWriteB64 (space f) (storePlan 2 8 f s) s

/-- `DS_WRITE2_B64` (R127; a reading admitted under `ADMIT_GK`): two 64-bit stores, offsets scaled by 8. -/
def execDsWrite2B64 (f : DsFields) (s : State) : Result :=
  runGkPlan .dsWrite2B64 (space f) (store2Plan 64 8 f s) s

/-- `DS_WRITE2ST64_B64` (R128; a reading admitted under `ADMIT_GK`): two 64-bit stores, offsets scaled by 512. -/
def execDsWrite2st64B64 (f : DsFields) (s : State) : Result :=
  runGkPlan .dsWrite2st64B64 (space f) (store2Plan 64 512 f s) s

/-- `DS_WRITE_B96` (R129): `Refused(undescribed)` whatever `ADMIT_GK` is (R303 item 2). -/
def execDsWriteB96 (_f : DsFields) (s : State) : Result := undescribed .dsWriteB96 s

/-- `DS_WRITE_B128` (R130): `Refused(undescribed)` whatever `ADMIT_GK` is (R303 item 2). -/
def execDsWriteB128 (_f : DsFields) (s : State) : Result := undescribed .dsWriteB128 s

end Sys2Proof.Machine
end

