-- ==== Sys2Proof/Machine/Dispatch.lean ====
section
/-! DEFINITION. One arm per instruction, each one call of its meaning. -/

namespace Sys2Proof.Machine

def exec (i : Instr) (s : State) : Host.Outcome State Fault Refusal :=
  match i with
  | .dsAddU32 f => Sys2Proof.Machine.execDsAddU32 f s
  | .dsSubU32 f => Sys2Proof.Machine.execDsSubU32 f s
  | .dsRsubU32 f => Sys2Proof.Machine.execDsRsubU32 f s
  | .dsIncU32 f => Sys2Proof.Machine.execDsIncU32 f s
  | .dsDecU32 f => Sys2Proof.Machine.execDsDecU32 f s
  | .dsMinI32 f => Sys2Proof.Machine.execDsMinI32 f s
  | .dsMaxI32 f => Sys2Proof.Machine.execDsMaxI32 f s
  | .dsMinU32 f => Sys2Proof.Machine.execDsMinU32 f s
  | .dsMaxU32 f => Sys2Proof.Machine.execDsMaxU32 f s
  | .dsAndB32 f => Sys2Proof.Machine.execDsAndB32 f s
  | .dsOrB32 f => Sys2Proof.Machine.execDsOrB32 f s
  | .dsXorB32 f => Sys2Proof.Machine.execDsXorB32 f s
  | .dsMskorB32 f => Sys2Proof.Machine.execDsMskorB32 f s
  | .dsWriteB32 f => Sys2Proof.Machine.execDsWriteB32 f s
  | .dsWrite2B32 f => Sys2Proof.Machine.execDsWrite2B32 f s
  | .dsWrite2st64B32 f => Sys2Proof.Machine.execDsWrite2st64B32 f s
  | .dsCmpstB32 f => Sys2Proof.Machine.execDsCmpstB32 f s
  | .dsCmpstF32 f => Sys2Proof.Machine.execDsCmpstF32 f s
  | .dsMinF32 f => Sys2Proof.Machine.execDsMinF32 f s
  | .dsMaxF32 f => Sys2Proof.Machine.execDsMaxF32 f s
  | .dsNop f => Sys2Proof.Machine.execDsNop f s
  | .dsAddF32 f => Sys2Proof.Machine.execDsAddF32 f s
  | .dsGwsSemaReleaseAll f => Sys2Proof.Machine.execDsGwsSemaReleaseAll f s
  | .dsGwsInit f => Sys2Proof.Machine.execDsGwsInit f s
  | .dsGwsSemaV f => Sys2Proof.Machine.execDsGwsSemaV f s
  | .dsGwsSemaBr f => Sys2Proof.Machine.execDsGwsSemaBr f s
  | .dsGwsSemaP f => Sys2Proof.Machine.execDsGwsSemaP f s
  | .dsGwsBarrier f => Sys2Proof.Machine.execDsGwsBarrier f s
  | .dsWriteB8 f => Sys2Proof.Machine.execDsWriteB8 f s
  | .dsWriteB16 f => Sys2Proof.Machine.execDsWriteB16 f s
  | .dsAddRtnU32 f => Sys2Proof.Machine.execDsAddRtnU32 f s
  | .dsSubRtnU32 f => Sys2Proof.Machine.execDsSubRtnU32 f s
  | .dsRsubRtnU32 f => Sys2Proof.Machine.execDsRsubRtnU32 f s
  | .dsIncRtnU32 f => Sys2Proof.Machine.execDsIncRtnU32 f s
  | .dsDecRtnU32 f => Sys2Proof.Machine.execDsDecRtnU32 f s
  | .dsMinRtnI32 f => Sys2Proof.Machine.execDsMinRtnI32 f s
  | .dsMaxRtnI32 f => Sys2Proof.Machine.execDsMaxRtnI32 f s
  | .dsMinRtnU32 f => Sys2Proof.Machine.execDsMinRtnU32 f s
  | .dsMaxRtnU32 f => Sys2Proof.Machine.execDsMaxRtnU32 f s
  | .dsAndRtnB32 f => Sys2Proof.Machine.execDsAndRtnB32 f s
  | .dsOrRtnB32 f => Sys2Proof.Machine.execDsOrRtnB32 f s
  | .dsXorRtnB32 f => Sys2Proof.Machine.execDsXorRtnB32 f s
  | .dsMskorRtnB32 f => Sys2Proof.Machine.execDsMskorRtnB32 f s
  | .dsWrxchgRtnB32 f => Sys2Proof.Machine.execDsWrxchgRtnB32 f s
  | .dsWrxchg2RtnB32 f => Sys2Proof.Machine.execDsWrxchg2RtnB32 f s
  | .dsWrxchg2st64RtnB32 f => Sys2Proof.Machine.execDsWrxchg2st64RtnB32 f s
  | .dsCmpstRtnB32 f => Sys2Proof.Machine.execDsCmpstRtnB32 f s
  | .dsCmpstRtnF32 f => Sys2Proof.Machine.execDsCmpstRtnF32 f s
  | .dsMinRtnF32 f => Sys2Proof.Machine.execDsMinRtnF32 f s
  | .dsMaxRtnF32 f => Sys2Proof.Machine.execDsMaxRtnF32 f s
  | .dsWrapRtnB32 f => Sys2Proof.Machine.execDsWrapRtnB32 f s
  | .dsSwizzleB32 f => Sys2Proof.Machine.execDsSwizzleB32 f s
  | .dsAddRtnF32 f => Sys2Proof.Machine.execDsAddRtnF32 f s
  | .dsReadB32 f => Sys2Proof.Machine.execDsReadB32 f s
  | .dsRead2B32 f => Sys2Proof.Machine.execDsRead2B32 f s
  | .dsRead2st64B32 f => Sys2Proof.Machine.execDsRead2st64B32 f s
  | .dsReadI8 f => Sys2Proof.Machine.execDsReadI8 f s
  | .dsReadU8 f => Sys2Proof.Machine.execDsReadU8 f s
  | .dsReadI16 f => Sys2Proof.Machine.execDsReadI16 f s
  | .dsReadU16 f => Sys2Proof.Machine.execDsReadU16 f s
  | .dsConsume f => Sys2Proof.Machine.execDsConsume f s
  | .dsAppend f => Sys2Proof.Machine.execDsAppend f s
  | .dsPermuteB32 f => Sys2Proof.Machine.execDsPermuteB32 f s
  | .dsOrderedCount f => Sys2Proof.Machine.execDsOrderedCount f s
  | .dsBpermuteB32 f => Sys2Proof.Machine.execDsBpermuteB32 f s
  | .dsAddU64 f => Sys2Proof.Machine.execDsAddU64 f s
  | .dsSubU64 f => Sys2Proof.Machine.execDsSubU64 f s
  | .dsRsubU64 f => Sys2Proof.Machine.execDsRsubU64 f s
  | .dsIncU64 f => Sys2Proof.Machine.execDsIncU64 f s
  | .dsDecU64 f => Sys2Proof.Machine.execDsDecU64 f s
  | .dsMinI64 f => Sys2Proof.Machine.execDsMinI64 f s
  | .dsMaxI64 f => Sys2Proof.Machine.execDsMaxI64 f s
  | .dsMinU64 f => Sys2Proof.Machine.execDsMinU64 f s
  | .dsMaxU64 f => Sys2Proof.Machine.execDsMaxU64 f s
  | .dsAndB64 f => Sys2Proof.Machine.execDsAndB64 f s
  | .dsOrB64 f => Sys2Proof.Machine.execDsOrB64 f s
  | .dsXorB64 f => Sys2Proof.Machine.execDsXorB64 f s
  | .dsMskorB64 f => Sys2Proof.Machine.execDsMskorB64 f s
  | .dsWriteB64 f => Sys2Proof.Machine.execDsWriteB64 f s
  | .dsWrite2B64 f => Sys2Proof.Machine.execDsWrite2B64 f s
  | .dsWrite2st64B64 f => Sys2Proof.Machine.execDsWrite2st64B64 f s
  | .dsCmpstB64 f => Sys2Proof.Machine.execDsCmpstB64 f s
  | .dsCmpstF64 f => Sys2Proof.Machine.execDsCmpstF64 f s
  | .dsMinF64 f => Sys2Proof.Machine.execDsMinF64 f s
  | .dsMaxF64 f => Sys2Proof.Machine.execDsMaxF64 f s
  | .dsAddRtnU64 f => Sys2Proof.Machine.execDsAddRtnU64 f s
  | .dsSubRtnU64 f => Sys2Proof.Machine.execDsSubRtnU64 f s
  | .dsRsubRtnU64 f => Sys2Proof.Machine.execDsRsubRtnU64 f s
  | .dsIncRtnU64 f => Sys2Proof.Machine.execDsIncRtnU64 f s
  | .dsDecRtnU64 f => Sys2Proof.Machine.execDsDecRtnU64 f s
  | .dsMinRtnI64 f => Sys2Proof.Machine.execDsMinRtnI64 f s
  | .dsMaxRtnI64 f => Sys2Proof.Machine.execDsMaxRtnI64 f s
  | .dsMinRtnU64 f => Sys2Proof.Machine.execDsMinRtnU64 f s
  | .dsMaxRtnU64 f => Sys2Proof.Machine.execDsMaxRtnU64 f s
  | .dsAndRtnB64 f => Sys2Proof.Machine.execDsAndRtnB64 f s
  | .dsOrRtnB64 f => Sys2Proof.Machine.execDsOrRtnB64 f s
  | .dsXorRtnB64 f => Sys2Proof.Machine.execDsXorRtnB64 f s
  | .dsMskorRtnB64 f => Sys2Proof.Machine.execDsMskorRtnB64 f s
  | .dsWrxchgRtnB64 f => Sys2Proof.Machine.execDsWrxchgRtnB64 f s
  | .dsWrxchg2RtnB64 f => Sys2Proof.Machine.execDsWrxchg2RtnB64 f s
  | .dsWrxchg2st64RtnB64 f => Sys2Proof.Machine.execDsWrxchg2st64RtnB64 f s
  | .dsCmpstRtnB64 f => Sys2Proof.Machine.execDsCmpstRtnB64 f s
  | .dsCmpstRtnF64 f => Sys2Proof.Machine.execDsCmpstRtnF64 f s
  | .dsMinRtnF64 f => Sys2Proof.Machine.execDsMinRtnF64 f s
  | .dsMaxRtnF64 f => Sys2Proof.Machine.execDsMaxRtnF64 f s
  | .dsReadB64 f => Sys2Proof.Machine.execDsReadB64 f s
  | .dsRead2B64 f => Sys2Proof.Machine.execDsRead2B64 f s
  | .dsRead2st64B64 f => Sys2Proof.Machine.execDsRead2st64B64 f s
  | .dsCondxchg32RtnB64 f => Sys2Proof.Machine.execDsCondxchg32RtnB64 f s
  | .dsAddSrc2U32 f => Sys2Proof.Machine.execDsAddSrc2U32 f s
  | .dsSubSrc2U32 f => Sys2Proof.Machine.execDsSubSrc2U32 f s
  | .dsRsubSrc2U32 f => Sys2Proof.Machine.execDsRsubSrc2U32 f s
  | .dsIncSrc2U32 f => Sys2Proof.Machine.execDsIncSrc2U32 f s
  | .dsDecSrc2U32 f => Sys2Proof.Machine.execDsDecSrc2U32 f s
  | .dsMinSrc2I32 f => Sys2Proof.Machine.execDsMinSrc2I32 f s
  | .dsMaxSrc2I32 f => Sys2Proof.Machine.execDsMaxSrc2I32 f s
  | .dsMinSrc2U32 f => Sys2Proof.Machine.execDsMinSrc2U32 f s
  | .dsMaxSrc2U32 f => Sys2Proof.Machine.execDsMaxSrc2U32 f s
  | .dsAndSrc2B32 f => Sys2Proof.Machine.execDsAndSrc2B32 f s
  | .dsOrSrc2B32 f => Sys2Proof.Machine.execDsOrSrc2B32 f s
  | .dsXorSrc2B32 f => Sys2Proof.Machine.execDsXorSrc2B32 f s
  | .dsWriteSrc2B32 f => Sys2Proof.Machine.execDsWriteSrc2B32 f s
  | .dsMinSrc2F32 f => Sys2Proof.Machine.execDsMinSrc2F32 f s
  | .dsMaxSrc2F32 f => Sys2Proof.Machine.execDsMaxSrc2F32 f s
  | .dsAddSrc2F32 f => Sys2Proof.Machine.execDsAddSrc2F32 f s
  | .dsAddSrc2U64 f => Sys2Proof.Machine.execDsAddSrc2U64 f s
  | .dsSubSrc2U64 f => Sys2Proof.Machine.execDsSubSrc2U64 f s
  | .dsRsubSrc2U64 f => Sys2Proof.Machine.execDsRsubSrc2U64 f s
  | .dsIncSrc2U64 f => Sys2Proof.Machine.execDsIncSrc2U64 f s
  | .dsDecSrc2U64 f => Sys2Proof.Machine.execDsDecSrc2U64 f s
  | .dsMinSrc2I64 f => Sys2Proof.Machine.execDsMinSrc2I64 f s
  | .dsMaxSrc2I64 f => Sys2Proof.Machine.execDsMaxSrc2I64 f s
  | .dsMinSrc2U64 f => Sys2Proof.Machine.execDsMinSrc2U64 f s
  | .dsMaxSrc2U64 f => Sys2Proof.Machine.execDsMaxSrc2U64 f s
  | .dsAndSrc2B64 f => Sys2Proof.Machine.execDsAndSrc2B64 f s
  | .dsOrSrc2B64 f => Sys2Proof.Machine.execDsOrSrc2B64 f s
  | .dsXorSrc2B64 f => Sys2Proof.Machine.execDsXorSrc2B64 f s
  | .dsWriteSrc2B64 f => Sys2Proof.Machine.execDsWriteSrc2B64 f s
  | .dsMinSrc2F64 f => Sys2Proof.Machine.execDsMinSrc2F64 f s
  | .dsMaxSrc2F64 f => Sys2Proof.Machine.execDsMaxSrc2F64 f s
  | .dsWriteB96 f => Sys2Proof.Machine.execDsWriteB96 f s
  | .dsWriteB128 f => Sys2Proof.Machine.execDsWriteB128 f s
  | .dsCondxchg32RtnB128 f => Sys2Proof.Machine.execDsCondxchg32RtnB128 f s
  | .dsReadB96 f => Sys2Proof.Machine.execDsReadB96 f s
  | .dsReadB128 f => Sys2Proof.Machine.execDsReadB128 f s

end Sys2Proof.Machine
end

