-- ==== Sys2Proof/Machine/Step.lean ====
section
/-! DEFINITION. One step: fetch, decode, execute (R300), and the host's way to place one instruction. -/

namespace Sys2Proof.Machine

/-- One step of the wavefront. A word the decoder rejects, or one outside the DS encoding, ends with
`IllegalEncoding` (R303). Every meaning moves `pc` itself, so the step adds nothing around `exec`. -/
def step (s : State) : Host.Outcome State Fault Refusal :=
  match s.fetch with
  | .ended => .refused .runEnded
  | .outside => .refused (.pcOutsideProgram s.pc)
  | .word w =>
    match decode s.params.layout s.params.arch w with
    | .ds i => exec i s
    | .illegal reason => .fault (.illegalEncoding s.pc w reason)
    | .notDs => .fault (.illegalEncoding s.pc w .notDs)

/-- The state with the instruction whose bits are `w` (those at `nbits` and above zero) as a one-word program at `pc`,
launched on a version that has it and with `ADMIT_GK` true (log entries 2, 14). -/
def State.withFetchWord (s : State) (nbits w : Nat) : State := s.placeProgramWord (w % 2 ^ nbits)

end Sys2Proof.Machine
end

