-- ==== Sys2Proof/Safety.lean ====
section
/-! DEFINITION. What a good state is, what no step may change, and what it is for a run to be final. -/

namespace Sys2Proof.Machine

/-- Every listed key of a sparse store is below a bound. -/
def KeysBelow {w : Nat} (m : List (Nat × BitVec w)) (bound : Nat) : Prop := ∀ c ∈ m, c.1 < bound

/-- The invariant of the machine: memories and the register file in canonical form, LDS and GDS without a byte at or
beyond their sizes (R29, R30), the register file without an element of a lane the wavefront does not have (R25), and
`pc` at a word of the program or just after the last one (R32, R326). -/
structure State.Inv (s : State) : Prop where
  ldsWf : s.lds.wf
  gdsWf : s.gds.wf
  imemWf : s.imem.wf
  ldsBelow : KeysBelow s.lds s.params.ldsSize
  gdsBelow : KeysBelow s.gds s.params.gdsSize
  vgprWf : CellsWf s.vgpr
  vgprBelow : KeysBelow s.vgpr (s.params.waveSize * 256)
  unwrittenRising : s.vgprUnwritten.Pairwise (fun a b => a < b)
  pcInProgram : s.progStart ≤ s.pc ∧ s.pc ≤ s.progEnd
  pcAtWord : (s.pc - s.progStart) % 8 = 0

/-- What no DS instruction writes (R28 item 4, R31, R35, R63) and no step changes (R5): two states agree on it. -/
structure SameLaunch (s t : State) : Prop where
  params : t.params = s.params
  m0 : t.m0 = s.m0
  m0Written : t.m0Written = s.m0Written
  active : t.active = s.active
  imem : t.imem = s.imem
  progStart : t.progStart = s.progStart
  progWords : t.progWords = s.progWords

/-- The wavefront has ended normally (R326). -/
def State.ended (s : State) : Prop := s.pc = s.progEnd

/-- A run is final when some number of completed steps reaches the normal end (R326). -/
def RunIsFinal (s : State) : Prop :=
  ∃ (k : Nat) (t : State), Host.Core.run Sys2Proof.core k s = .next t ∧ t.ended

end Sys2Proof.Machine
end

