-- ==== Sys2Proof/Certificates/Slice0/Obligations.lean ====
section
/-! DEFINITION. The statements about this model, and the few words they are written in. -/

namespace Sys2Proof.Claims

open Sys2Proof.Machine

/-! ## The words the statements use -/

/-- The dword `MemRead(a, 4)` of a space (R10). -/
def dword (s : State) (sp : Space) (a : Nat) : Word := BitVec.ofNat 32 (memRead (s.mem sp) a 4)

/-- The 64-bit value `MemRead(a, 8)` of a space (R10). -/
def qword (s : State) (sp : Space) (a : Nat) : BitVec 64 := BitVec.ofNat 64 (memRead (s.mem sp) a 8)

/-- The 64-bit operand in the registers `r` and `r + 1` of a lane, low dword in the lower-numbered one (R27). -/
def vpair (s : State) (r l : Nat) : BitVec 64 := s.vreg (r + 1) l ++ s.vreg r l

/-- An access reaches a byte. -/
def Covers (a : Access) (b : Nat) : Prop := a.ea ≤ b ∧ b < a.ea + a.width

/-- Two accesses share no byte. -/
def Apart (a b : Access) : Prop := a.ea + a.width ≤ b.ea ∨ b.ea + b.width ≤ a.ea

/-- The shape of an instruction that accesses memory: whether its meaning is a reading under `ADMIT_GK`, the register
operands it reads and writes, its accesses, and whether it stores to them. -/
structure Shape where
  instr : DsFields → Instr
  gk : Bool
  sources : DsFields → List RegRange
  dest : DsFields → RegRange
  accesses : DsFields → State → Nat → List Access
  stores : Bool

/-- One address, an operand of `w` bits, read-modify-write. -/
def rmwShape (instr : DsFields → Instr) (gk : Bool) (w : Nat) (two rtn : Bool) : Shape :=
  { instr := instr, gk := gk
    sources := fun f => addrRange f :: data0Range f (w / 32) :: (if two then [data1Range f (w / 32)] else [])
    dest := fun f => if rtn then dstRange f (w / 32) else noDst
    accesses := fun f s l => [access (w / 8) f s l]
    stores := true }

/-- One address, a store of `n` bytes from `k` registers. -/
def storeShape (instr : DsFields → Instr) (gk : Bool) (k n : Nat) : Shape :=
  { instr := instr, gk := gk
    sources := fun f => [addrRange f, data0Range f k]
    dest := fun _ => noDst
    accesses := fun f s l => [access n f s l]
    stores := true }

/-- Two addresses, two stores of `w` bits. -/
def store2Shape (instr : DsFields → Instr) (gk : Bool) (w scale : Nat) : Shape :=
  { instr := instr, gk := gk
    sources := fun f => [addrRange f, data0Range f (w / 32), data1Range f (w / 32)]
    dest := fun _ => noDst
    accesses := fun f s l => [access0 scale (w / 8) f s l, access1 scale (w / 8) f s l]
    stores := true }

/-- Two addresses, two exchanges of `w` bits. -/
def exchange2Shape (instr : DsFields → Instr) (w scale : Nat) : Shape :=
  { store2Shape instr true w scale with dest := fun f => dstRange f (2 * (w / 32)) }

/-- One address, a load of `n` bytes into `k` registers. -/
def loadShape (instr : DsFields → Instr) (k n : Nat) : Shape :=
  { instr := instr, gk := true
    sources := fun f => [addrRange f]
    dest := fun f => dstRange f k
    accesses := fun f s l => [access n f s l]
    stores := false }

/-- Two addresses, two loads of `w` bits. -/
def load2Shape (instr : DsFields → Instr) (w scale : Nat) : Shape :=
  { instr := instr, gk := true
    sources := fun f => [addrRange f]
    dest := fun f => dstRange f (2 * (w / 32))
    accesses := fun f s l => [access0 scale (w / 8) f s l, access1 scale (w / 8) f s l]
    stores := false }

/-- The results of the described 32-bit atomics (R100) and of the readings built on them, written from R101 to R114. -/
def incOf {w : Nat} (x d0 : BitVec w) : BitVec w := if BitVec.ult x d0 then x + 1 else 0

/-- R105. -/
def decOf {w : Nat} (x d0 : BitVec w) : BitVec w := if BitVec.ule x d0 && x != 0 then x - 1 else d0

/-- R106, `mins`. -/
def minsOf {w : Nat} (x d0 : BitVec w) : BitVec w := if BitVec.slt d0 x then d0 else x

/-- R107, `maxs`. -/
def maxsOf {w : Nat} (x d0 : BitVec w) : BitVec w := if BitVec.slt x d0 then d0 else x

/-- R108, `minu`. -/
def minuOf {w : Nat} (x d0 : BitVec w) : BitVec w := if BitVec.ult d0 x then d0 else x

/-- R109, `maxu`. -/
def maxuOf {w : Nat} (x d0 : BitVec w) : BitVec w := if BitVec.ult x d0 then d0 else x

/-- An access is admitted (R51, R52). -/
abbrev Admitted (s : State) (sp : Space) (a : Access) : Prop := a.sum < 2 ^ 32 ∧ a.ea + a.width ≤ s.limit sp

/-! ### The operation of one lane

What each instruction does for one lane, as a function of the selected memory: the memory it leaves and the dwords it
returns, lowest-numbered destination first. -/

/-- How a lane's operation reaches memory. -/
structure Port where
  read : Access → Memory → Nat
  write : Access → Nat → Memory → Memory

/-- Every access is made: `MemRead` and `MemWrite` (R10). -/
def plainPort : Port :=
  { read := fun a m => memRead m a.ea a.width
    write := fun a x m => memWrite m a.ea a.width x }

/-- `zero_drop` (R53), access by access (log entry 11): an access that is not admitted reads 0 and writes nothing. -/
def droppingPort (s : State) (sp : Space) : Port :=
  { read := fun a m => if Admitted s sp a then memRead m a.ea a.width else 0
    write := fun a x m => if Admitted s sp a then memWrite m a.ea a.width x else m }

/-- The `w`-bit operand that starts in register `r` of a lane, for `w` up to 64 (R27). -/
def operand (w : Nat) (s : State) (r l : Nat) : BitVec w := (vpair s r l).setWidth w

/-- The low `k` dwords of a value, low dword first (R27). -/
def dwordsOf (k x : Nat) : List Word := (List.range k).map (fun i => BitVec.ofNat 32 (x / 2 ^ (32 * i)))

/-- The dword a signed load of `b` bits makes of the bits it reads (R174, R176). -/
def signExtended (b x : Nat) : Nat := ((BitVec.ofNat b x).signExtend 32).toNat

/-- An instruction that accesses memory: its shape and the operation of one lane. -/
structure Operation where
  shape : Shape
  lane : Port → DsFields → State → Nat → Memory → Memory × List Word

/-- `x` becomes `g x D0 D1`; with `rtn` the old `x` is returned (R11). -/
def rmwOperation (w : Nat) (instr : DsFields → Instr) (gk two rtn : Bool)
    (g : BitVec w → BitVec w → BitVec w → BitVec w) : Operation :=
  { shape := rmwShape instr gk w two rtn
    lane := fun port f s l m =>
      let a := access (w / 8) f s l
      let x := port.read a m
      (port.write a (g (BitVec.ofNat w x) (operand w s f.vdata0.toNat l) (operand w s f.vdata1.toNat l)).toNat m,
        if rtn then dwordsOf (w / 32) x else []) }

/-- A store of `n` bytes of `D0`. -/
def storeOperation (instr : DsFields → Instr) (gk : Bool) (k n : Nat) : Operation :=
  { shape := storeShape instr gk k n
    lane := fun port f s l m => (port.write (access n f s l) (operand (32 * k) s f.vdata0.toNat l).toNat m, []) }

/-- `D0` to the first address, then `D1` to the second (R58, log entry 17). -/
def store2Operation (w : Nat) (instr : DsFields → Instr) (gk : Bool) (scale : Nat) : Operation :=
  { shape := store2Shape instr gk w scale
    lane := fun port f s l m =>
      (port.write (access1 scale (w / 8) f s l) (operand w s f.vdata1.toNat l).toNat
        (port.write (access0 scale (w / 8) f s l) (operand w s f.vdata0.toNat l).toNat m), []) }

/-- `D0` exchanged at the first address, then `D1` at the second (log entry 17). -/
def exchange2Operation (w : Nat) (instr : DsFields → Instr) (scale : Nat) : Operation :=
  { shape := exchange2Shape instr w scale
    lane := fun port f s l m =>
      let a := access0 scale (w / 8) f s l
      let b := access1 scale (w / 8) f s l
      let n := port.write a (operand w s f.vdata0.toNat l).toNat m
      (port.write b (operand w s f.vdata1.toNat l).toNat n,
        dwordsOf (w / 32) (port.read a m) ++ dwordsOf (w / 32) (port.read b n)) }

/-- A load of `n` bytes into `k` registers, extended by `ext`. -/
def loadOperation (instr : DsFields → Instr) (k n : Nat) (ext : Nat → Nat) : Operation :=
  { shape := loadShape instr k n
    lane := fun port f s l m => (m, dwordsOf k (ext (port.read (access n f s l) m))) }

/-- Two loads, the value of the first address first. -/
def load2Operation (w : Nat) (instr : DsFields → Instr) (scale : Nat) : Operation :=
  { shape := load2Shape instr w scale
    lane := fun port f s l m =>
      (m, dwordsOf (w / 32) (port.read (access0 scale (w / 8) f s l) m)
        ++ dwordsOf (w / 32) (port.read (access1 scale (w / 8) f s l) m)) }

/-- The 32-bit atomics with no returned value (file 40). -/
def atomicOperations32 : List Operation := [
  rmwOperation 32 .dsAddU32 false false false (fun x d0 _ => x + d0),
  rmwOperation 32 .dsSubU32 false false false (fun x d0 _ => x - d0),
  rmwOperation 32 .dsRsubU32 false false false (fun x d0 _ => d0 - x),
  rmwOperation 32 .dsIncU32 false false false (fun x d0 _ => incOf x d0),
  rmwOperation 32 .dsDecU32 false false false (fun x d0 _ => decOf x d0),
  rmwOperation 32 .dsMinI32 false false false (fun x d0 _ => minsOf x d0),
  rmwOperation 32 .dsMaxI32 false false false (fun x d0 _ => maxsOf x d0),
  rmwOperation 32 .dsMinU32 false false false (fun x d0 _ => minuOf x d0),
  rmwOperation 32 .dsMaxU32 false false false (fun x d0 _ => maxuOf x d0),
  rmwOperation 32 .dsAndB32 false false false (fun x d0 _ => x &&& d0),
  rmwOperation 32 .dsOrB32 false false false (fun x d0 _ => x ||| d0),
  rmwOperation 32 .dsXorB32 false false false (fun x d0 _ => x ^^^ d0),
  rmwOperation 32 .dsMskorB32 false true false (fun x d0 d1 => (x &&& ~~~d0) ||| d1),
  rmwOperation 32 .dsCmpstB32 true true false (fun x d0 d1 => if x = d0 then d1 else x)]

/-- The stores (file 41). -/
def storeOperations : List Operation := [
  storeOperation .dsWriteB32 false 1 4,
  store2Operation 32 .dsWrite2B32 false 4,
  store2Operation 32 .dsWrite2st64B32 true 256,
  storeOperation .dsWriteB8 true 1 1,
  storeOperation .dsWriteB16 true 1 2,
  storeOperation .dsWriteB64 true 2 8,
  store2Operation 64 .dsWrite2B64 true 8,
  store2Operation 64 .dsWrite2st64B64 true 512]

/-- The 32-bit atomics that return a value (file 42). -/
def atomicOperationsRtn32 : List Operation := [
  rmwOperation 32 .dsAddRtnU32 true false true (fun x d0 _ => x + d0),
  rmwOperation 32 .dsSubRtnU32 true false true (fun x d0 _ => x - d0),
  rmwOperation 32 .dsRsubRtnU32 true false true (fun x d0 _ => d0 - x),
  rmwOperation 32 .dsIncRtnU32 true false true (fun x d0 _ => incOf x d0),
  rmwOperation 32 .dsDecRtnU32 true false true (fun x d0 _ => decOf x d0),
  rmwOperation 32 .dsMinRtnI32 true false true (fun x d0 _ => minsOf x d0),
  rmwOperation 32 .dsMaxRtnI32 true false true (fun x d0 _ => maxsOf x d0),
  rmwOperation 32 .dsMinRtnU32 true false true (fun x d0 _ => minuOf x d0),
  rmwOperation 32 .dsMaxRtnU32 true false true (fun x d0 _ => maxuOf x d0),
  rmwOperation 32 .dsAndRtnB32 true false true (fun x d0 _ => x &&& d0),
  rmwOperation 32 .dsOrRtnB32 true false true (fun x d0 _ => x ||| d0),
  rmwOperation 32 .dsXorRtnB32 true false true (fun x d0 _ => x ^^^ d0),
  rmwOperation 32 .dsMskorRtnB32 true true true (fun x d0 d1 => (x &&& ~~~d0) ||| d1),
  rmwOperation 32 .dsWrxchgRtnB32 true false true (fun _ d0 _ => d0),
  exchange2Operation 32 .dsWrxchg2RtnB32 4,
  exchange2Operation 32 .dsWrxchg2st64RtnB32 256,
  rmwOperation 32 .dsCmpstRtnB32 true true true (fun x d0 d1 => if x = d0 then d1 else x)]

/-- The loads (file 43). -/
def loadOperations : List Operation := [
  loadOperation .dsReadB32 1 4 id,
  load2Operation 32 .dsRead2B32 4,
  load2Operation 32 .dsRead2st64B32 256,
  loadOperation .dsReadI8 1 1 (signExtended 8),
  loadOperation .dsReadU8 1 1 id,
  loadOperation .dsReadI16 1 2 (signExtended 16),
  loadOperation .dsReadU16 1 2 id,
  loadOperation .dsReadB64 2 8 id,
  load2Operation 64 .dsRead2B64 8,
  load2Operation 64 .dsRead2st64B64 512]

/-- The 64-bit atomics with no returned value (file 44). -/
def atomicOperations64 : List Operation := [
  rmwOperation 64 .dsAddU64 true false false (fun x d0 _ => x + d0),
  rmwOperation 64 .dsSubU64 true false false (fun x d0 _ => x - d0),
  rmwOperation 64 .dsRsubU64 true false false (fun x d0 _ => d0 - x),
  rmwOperation 64 .dsIncU64 true false false (fun x d0 _ => incOf x d0),
  rmwOperation 64 .dsDecU64 true false false (fun x d0 _ => decOf x d0),
  rmwOperation 64 .dsMinI64 true false false (fun x d0 _ => minsOf x d0),
  rmwOperation 64 .dsMaxI64 true false false (fun x d0 _ => maxsOf x d0),
  rmwOperation 64 .dsMinU64 true false false (fun x d0 _ => minuOf x d0),
  rmwOperation 64 .dsMaxU64 true false false (fun x d0 _ => maxuOf x d0),
  rmwOperation 64 .dsAndB64 true false false (fun x d0 _ => x &&& d0),
  rmwOperation 64 .dsOrB64 true false false (fun x d0 _ => x ||| d0),
  rmwOperation 64 .dsXorB64 true false false (fun x d0 _ => x ^^^ d0),
  rmwOperation 64 .dsMskorB64 true true false (fun x d0 d1 => (x &&& ~~~d0) ||| d1),
  rmwOperation 64 .dsCmpstB64 true true false (fun x d0 d1 => if x = d0 then d1 else x)]

/-- The 64-bit atomics that return a value (file 45). -/
def atomicOperationsRtn64 : List Operation := [
  rmwOperation 64 .dsAddRtnU64 true false true (fun x d0 _ => x + d0),
  rmwOperation 64 .dsSubRtnU64 true false true (fun x d0 _ => x - d0),
  rmwOperation 64 .dsRsubRtnU64 true false true (fun x d0 _ => d0 - x),
  rmwOperation 64 .dsIncRtnU64 true false true (fun x d0 _ => incOf x d0),
  rmwOperation 64 .dsDecRtnU64 true false true (fun x d0 _ => decOf x d0),
  rmwOperation 64 .dsMinRtnI64 true false true (fun x d0 _ => minsOf x d0),
  rmwOperation 64 .dsMaxRtnI64 true false true (fun x d0 _ => maxsOf x d0),
  rmwOperation 64 .dsMinRtnU64 true false true (fun x d0 _ => minuOf x d0),
  rmwOperation 64 .dsMaxRtnU64 true false true (fun x d0 _ => maxuOf x d0),
  rmwOperation 64 .dsAndRtnB64 true false true (fun x d0 _ => x &&& d0),
  rmwOperation 64 .dsOrRtnB64 true false true (fun x d0 _ => x ||| d0),
  rmwOperation 64 .dsXorRtnB64 true false true (fun x d0 _ => x ^^^ d0),
  rmwOperation 64 .dsMskorRtnB64 true true true (fun x d0 d1 => (x &&& ~~~d0) ||| d1),
  rmwOperation 64 .dsWrxchgRtnB64 true false true (fun _ d0 _ => d0),
  exchange2Operation 64 .dsWrxchg2RtnB64 8,
  exchange2Operation 64 .dsWrxchg2st64RtnB64 512,
  rmwOperation 64 .dsCmpstRtnB64 true true true (fun x d0 d1 => if x = d0 then d1 else x)]

/-- The atomics: the thirteen described ones and those with a reading. -/
def atomicOperations : List Operation :=
  atomicOperations32 ++ atomicOperationsRtn32 ++ atomicOperations64 ++ atomicOperationsRtn64

/-- Every instruction that accesses memory: 80 of them. -/
def memoryOperations : List Operation := atomicOperations ++ storeOperations ++ loadOperations

/-- Their shapes. -/
def memoryShapes : List Shape := memoryOperations.map (fun o => o.shape)

/-- The 66 instructions with a reading admissible under `ADMIT_GK` (R303 item 1). -/
def readingMnemonics : List Mnemonic := [
  .dsWrite2st64B32, .dsCmpstB32, .dsNop, .dsWriteB8, .dsWriteB16,
  .dsAddRtnU32, .dsSubRtnU32, .dsRsubRtnU32, .dsIncRtnU32, .dsDecRtnU32,
  .dsMinRtnI32, .dsMaxRtnI32, .dsMinRtnU32, .dsMaxRtnU32, .dsAndRtnB32,
  .dsOrRtnB32, .dsXorRtnB32, .dsMskorRtnB32, .dsWrxchgRtnB32, .dsWrxchg2RtnB32,
  .dsWrxchg2st64RtnB32, .dsCmpstRtnB32, .dsReadB32, .dsRead2B32, .dsRead2st64B32,
  .dsReadI8, .dsReadU8, .dsReadI16, .dsReadU16, .dsAddU64,
  .dsSubU64, .dsRsubU64, .dsIncU64, .dsDecU64, .dsMinI64,
  .dsMaxI64, .dsMinU64, .dsMaxU64, .dsAndB64, .dsOrB64,
  .dsXorB64, .dsMskorB64, .dsWriteB64, .dsWrite2B64, .dsWrite2st64B64,
  .dsCmpstB64, .dsAddRtnU64, .dsSubRtnU64, .dsRsubRtnU64, .dsIncRtnU64,
  .dsDecRtnU64, .dsMinRtnI64, .dsMaxRtnI64, .dsMinRtnU64, .dsMaxRtnU64,
  .dsAndRtnB64, .dsOrRtnB64, .dsXorRtnB64, .dsMskorRtnB64, .dsWrxchgRtnB64,
  .dsWrxchg2RtnB64, .dsWrxchg2st64RtnB64, .dsCmpstRtnB64, .dsReadB64, .dsRead2B64,
  .dsRead2st64B64]

/-- The 64 instructions refused whatever `ADMIT_GK` is (R303 item 2). -/
def refusedMnemonics : List Mnemonic := [
  .dsCmpstF32, .dsMinF32, .dsMaxF32, .dsAddF32, .dsGwsSemaReleaseAll,
  .dsGwsInit, .dsGwsSemaV, .dsGwsSemaBr, .dsGwsSemaP, .dsGwsBarrier,
  .dsCmpstRtnF32, .dsMinRtnF32, .dsMaxRtnF32, .dsWrapRtnB32, .dsSwizzleB32,
  .dsAddRtnF32, .dsConsume, .dsAppend, .dsPermuteB32, .dsOrderedCount,
  .dsBpermuteB32, .dsCmpstF64, .dsMinF64, .dsMaxF64, .dsCmpstRtnF64,
  .dsMinRtnF64, .dsMaxRtnF64, .dsCondxchg32RtnB64, .dsAddSrc2U32, .dsSubSrc2U32,
  .dsRsubSrc2U32, .dsIncSrc2U32, .dsDecSrc2U32, .dsMinSrc2I32, .dsMaxSrc2I32,
  .dsMinSrc2U32, .dsMaxSrc2U32, .dsAndSrc2B32, .dsOrSrc2B32, .dsXorSrc2B32,
  .dsWriteSrc2B32, .dsMinSrc2F32, .dsMaxSrc2F32, .dsAddSrc2F32, .dsAddSrc2U64,
  .dsSubSrc2U64, .dsRsubSrc2U64, .dsIncSrc2U64, .dsDecSrc2U64, .dsMinSrc2I64,
  .dsMaxSrc2I64, .dsMinSrc2U64, .dsMaxSrc2U64, .dsAndSrc2B64, .dsOrSrc2B64,
  .dsXorSrc2B64, .dsWriteSrc2B64, .dsMinSrc2F64, .dsMaxSrc2F64, .dsWriteB96,
  .dsWriteB128, .dsCondxchg32RtnB128, .dsReadB96, .dsReadB128]

/-- When an instruction of a shape runs to completion: its reading is admitted (R303), its registers are in the file
(R25, R27), and, for every active lane, `M0` and its source elements hold values (R37) and its accesses are admitted
(R51, R52). -/
structure Ready (sh : Shape) (f : DsFields) (s : State) : Prop where
  reading : sh.gk = true → s.params.admitGk = true
  registers : ∀ r ∈ sh.dest f :: sh.sources f, r.count = 0 ∨ r.first + r.count ≤ min s.params.vgprAlloc 256
  m0 : s.activeLanes ≠ [] → s.m0Written = true
  values : ∀ l ∈ s.activeLanes, ∀ r ∈ sh.sources f, ∀ i < r.count, s.holdsValue (r.first + i) l = true
  inRange : ∀ l ∈ s.activeLanes, ∀ a ∈ sh.accesses f s l, a.sum < 2 ^ 32 ∧ a.ea + a.width ≤ s.limit (space f)

/-- The selected memory after the operations of some lanes, one after another. -/
def memoryAfter (o : Operation) (port : Port) (f : DsFields) (s : State) (lanes : List Nat) : Memory :=
  lanes.foldl (fun m l => (o.lane port f s l m).1) (s.mem (space f))

/-- The state left is that of performing the lanes' operations one after another in `order` (R59): the selected memory
is what the last of them leaves, and each lane's destination registers hold what its operation returns on the memory
that the lanes before it leave. -/
structure TakesOrder (o : Operation) (port : Port) (f : DsFields) (s t : State) (order : List Nat) : Prop where
  lanes : order.Perm s.activeLanes
  memory : t.mem (space f) = memoryAfter o port f s order
  returned : ∀ before l after, order = before ++ l :: after → ∀ (i : Nat) (x : Word),
    (o.lane port f s l (memoryAfter o port f s before)).2[i]? = some x →
    t.vreg (f.vdst.toNat + i) l = x ∧ t.holdsValue (f.vdst.toNat + i) l = true

/-- What an instruction of a shape leaves unchanged (R35): what the launch fixed, the memory that is not selected, every
byte of the selected memory outside the active lanes' accesses (every byte at all for a load), and every register
element but the active lanes' destinations; `pc` has moved by 8. -/
structure Frame (sh : Shape) (f : DsFields) (s t : State) : Prop where
  pc : t.pc = s.pc + 8
  launch : SameLaunch s t
  otherSpace : ∀ sp, sp ≠ space f → t.mem sp = s.mem sp
  otherBytes : ∀ b, (sh.stores = true → ∀ l ∈ s.activeLanes, ∀ a ∈ sh.accesses f s l, ¬ Covers a b) →
    t.byteAt (space f) b = s.byteAt (space f) b
  otherRegisters : ∀ r l, r < 256 → ¬ (l ∈ s.activeLanes ∧ r ∈ (sh.dest f).regs) →
    t.vreg r l = s.vreg r l ∧ t.holdsValue r l = s.holdsValue r l

/-- No other active lane's access shares a byte with one of lane `l`. -/
def Alone (sh : Shape) (f : DsFields) (s : State) (l : Nat) : Prop :=
  ∀ k ∈ s.activeLanes, k ≠ l → ∀ a ∈ sh.accesses f s l, ∀ b ∈ sh.accesses f s k, Apart a b

/-- An instruction of a shape completes with its frame kept and a result that holds for every active lane. -/
def Runs (sh : Shape) (result : DsFields → State → State → Nat → Prop) : Prop :=
  ∀ (f : DsFields) (s : State), Ready sh f s →
    ∃ t, exec (sh.instr f) s = .next t ∧ Frame sh f s t ∧ ∀ l ∈ s.activeLanes, result f s t l

/-- A 32-bit read-modify-write: `x` becomes `g x D0 D1` for every lane that meets no other, and with `rtn` the lane's
`VDST` holds the old value. -/
def Rmw32 (instr : DsFields → Instr) (gk two rtn : Bool) (g : Word → Word → Word → Word) : Prop :=
  Runs (rmwShape instr gk 32 two rtn) fun f s t l =>
    Alone (rmwShape instr gk 32 two rtn) f s l →
      dword t (space f) (access 4 f s l).ea
        = g (dword s (space f) (access 4 f s l).ea) (s.vreg f.vdata0.toNat l) (s.vreg f.vdata1.toNat l)
      ∧ (rtn = true → t.vreg f.vdst.toNat l = dword s (space f) (access 4 f s l).ea
          ∧ t.holdsValue f.vdst.toNat l = true)

/-- A 64-bit read-modify-write on register pairs. -/
def Rmw64 (instr : DsFields → Instr) (two rtn : Bool) (g : BitVec 64 → BitVec 64 → BitVec 64 → BitVec 64) : Prop :=
  Runs (rmwShape instr true 64 two rtn) fun f s t l =>
    Alone (rmwShape instr true 64 two rtn) f s l →
      qword t (space f) (access 8 f s l).ea
        = g (qword s (space f) (access 8 f s l).ea) (vpair s f.vdata0.toNat l) (vpair s f.vdata1.toNat l)
      ∧ (rtn = true → vpair t f.vdst.toNat l = qword s (space f) (access 8 f s l).ea
          ∧ t.holdsValue f.vdst.toNat l = true ∧ t.holdsValue (f.vdst.toNat + 1) l = true)

/-- A store of the low `n` bytes of `data`. -/
def Store (instr : DsFields → Instr) (gk : Bool) (k n : Nat) (data : DsFields → State → Nat → Nat) : Prop :=
  Runs (storeShape instr gk k n) fun f s t l =>
    Alone (storeShape instr gk k n) f s l →
      ∀ i < n, t.byteAt (space f) ((access n f s l).ea + i) = BitVec.ofNat 8 (data f s l / 256 ^ i)

/-- Two 32-bit stores: the second address holds `D1`, and the first `D0` unless it is the same address. -/
def Store2Dwords (instr : DsFields → Instr) (gk : Bool) (scale : Nat) : Prop :=
  Runs (store2Shape instr gk 32 scale) fun f s t l =>
    Alone (store2Shape instr gk 32 scale) f s l →
      dword t (space f) (access1 scale 4 f s l).ea = s.vreg f.vdata1.toNat l
      ∧ ((access0 scale 4 f s l).ea ≠ (access1 scale 4 f s l).ea →
          dword t (space f) (access0 scale 4 f s l).ea = s.vreg f.vdata0.toNat l)

/-- Two 64-bit stores. -/
def Store2Qwords (instr : DsFields → Instr) (scale : Nat) : Prop :=
  Runs (store2Shape instr true 64 scale) fun f s t l =>
    Alone (store2Shape instr true 64 scale) f s l →
      qword t (space f) (access1 scale 8 f s l).ea = vpair s f.vdata1.toNat l
      ∧ ((access0 scale 8 f s l).ea ≠ (access1 scale 8 f s l).ea →
          qword t (space f) (access0 scale 8 f s l).ea = vpair s f.vdata0.toNat l)

/-- Two 32-bit exchanges, the first at `EA0`; where both addresses are the same the second returns the first's `D0`. -/
def Exchange2Dwords (instr : DsFields → Instr) (scale : Nat) : Prop :=
  Runs (exchange2Shape instr 32 scale) fun f s t l =>
    Alone (exchange2Shape instr 32 scale) f s l →
      dword t (space f) (access1 scale 4 f s l).ea = s.vreg f.vdata1.toNat l
      ∧ t.vreg f.vdst.toNat l = dword s (space f) (access0 scale 4 f s l).ea
      ∧ (if (access0 scale 4 f s l).ea = (access1 scale 4 f s l).ea then
          t.vreg (f.vdst.toNat + 1) l = s.vreg f.vdata0.toNat l
        else
          t.vreg (f.vdst.toNat + 1) l = dword s (space f) (access1 scale 4 f s l).ea
          ∧ dword t (space f) (access0 scale 4 f s l).ea = s.vreg f.vdata0.toNat l)
      ∧ t.holdsValue f.vdst.toNat l = true ∧ t.holdsValue (f.vdst.toNat + 1) l = true

/-- Two 64-bit exchanges. -/
def Exchange2Qwords (instr : DsFields → Instr) (scale : Nat) : Prop :=
  Runs (exchange2Shape instr 64 scale) fun f s t l =>
    Alone (exchange2Shape instr 64 scale) f s l →
      qword t (space f) (access1 scale 8 f s l).ea = vpair s f.vdata1.toNat l
      ∧ vpair t f.vdst.toNat l = qword s (space f) (access0 scale 8 f s l).ea
      ∧ (if (access0 scale 8 f s l).ea = (access1 scale 8 f s l).ea then
          vpair t (f.vdst.toNat + 2) l = vpair s f.vdata0.toNat l
        else
          vpair t (f.vdst.toNat + 2) l = qword s (space f) (access1 scale 8 f s l).ea
          ∧ qword t (space f) (access0 scale 8 f s l).ea = vpair s f.vdata0.toNat l)
      ∧ ∀ i < 4, t.holdsValue (f.vdst.toNat + i) l = true

/-- A load into one register: `VDST` holds `value` of the dword-sized or narrower access. -/
def Load (instr : DsFields → Instr) (n : Nat) (value : DsFields → State → Nat → Word) : Prop :=
  Runs (loadShape instr 1 n) fun f s t l =>
    t.vreg f.vdst.toNat l = value f s l ∧ t.holdsValue f.vdst.toNat l = true

/-- The described atomics whose result does not depend on the lane order (R59 item 2). -/
def orderFreeAtomics : List (DsFields → Instr) := [
  .dsAddU32, .dsSubU32, .dsMinI32, .dsMaxI32, .dsMinU32, .dsMaxU32, .dsAndB32, .dsOrB32, .dsXorB32]

/-- The checks that come before the one a statement is about have passed: the reading is admitted, the registers are in
the file, a lane is active (R305 items 1 to 3). -/
def Executes (sh : Shape) (f : DsFields) (s : State) : Prop :=
  (sh.gk = true → s.params.admitGk = true)
    ∧ (∀ r ∈ sh.dest f :: sh.sources f, r.count = 0 ∨ r.first + r.count ≤ min s.params.vgprAlloc 256)
    ∧ s.activeLanes ≠ []

/-- The registers a lane of a shape reads, in the order `ADDR`, `VDATA0`, `VDATA1` (R305 item 4). -/
def sourceRegisters (sh : Shape) (f : DsFields) : List Nat := (sh.sources f).flatMap (fun r => r.regs)

/-- The bytes of instruction memory at `a` hold the word `w`: `byte[a + k] = w[8k+7:8k]` (R85). -/
def HoldsWord (m : Memory) (a : Nat) (w : InstrWord) : Prop :=
  ∀ k < 8, cellGet m (a + k) = w.extractLsb' (8 * k) 8

/-- `pc` is at a word of the program (R321, R326). -/
def AtProgramWord (s : State) : Prop := s.progStart ≤ s.pc ∧ s.pc + 8 ≤ s.progEnd

/-- The register operands of a term in the order of an assembler line: destination, address, data 0, data 1, each where
the class uses it (R80, R88). -/
def registerOperands (u : FieldUse) (f : DsFields) : List Nat :=
  (if u.vdst then [f.vdst.toNat] else []) ++ (if u.addr then [f.addr.toNat] else [])
    ++ (if u.vdata0 then [f.vdata0.toNat] else []) ++ (if u.vdata1 then [f.vdata1.toNat] else [])

/-- The opcode numbers with no row at all (R83). -/
def unlistedOpcodes : List Nat :=
  [22, 23] ++ List.range' 84 12 ++ [116, 117] ++ List.range' 121 5 ++ [127, 140] ++ List.range' 142 4
    ++ [148, 150, 151] ++ List.range' 158 31 ++ List.range' 206 4 ++ List.range' 212 10 ++ List.range' 224 29

/-- The opcode numbers with a row but no instruction on one version (R83). -/
def gapsOn (arch : Arch) : List Nat :=
  match arch with
  | .gcn10 => [20, 21, 24, 52, 126, 149] ++ List.range' 152 6 ++ [189, 190, 191, 205, 222, 223, 253, 254, 255]
  | .gcn11 => [21, 149] ++ List.range' 152 6 ++ [189, 190, 191, 205]
  | .gcn12 => List.range' 24 6 ++ [204]

end Sys2Proof.Claims

open Sys2Proof Sys2Proof.Machine Sys2Proof.Claims

/-! ## Encoding and decoding -/

/-- R92: decode of encode is the instruction, for every well-formed instruction with every operand value. -/
def Obligations.DecodeOfEncode : Prop :=
  ∀ (layout : DsLayout) (arch : Arch) (i : Instr), WellFormed arch i →
    ∃ w, encode layout arch i = some w ∧ decode layout arch w = .ds i

/-- R92: encoding a decoded word gives the word back exactly when its unused fields are zero. -/
def Obligations.EncodeOfDecode : Prop :=
  ∀ (layout : DsLayout) (arch : Arch) (w : InstrWord) (i : Instr), decode layout arch w = .ds i →
    (encode layout arch i = some w ↔ i.unusedFieldsZero = true)

/-- R76, R92: a word decodes to a DS term exactly when its parts, as numbers, say so. -/
def Obligations.DecodeReadsTheFields : Prop :=
  ∀ (arch : Arch) (w : InstrWord) (i : Instr),
    decode .sourceTable arch w = .ds i ↔
      w.toNat / 2 ^ 26 % 64 = 0b110110 ∧ w.toNat / 2 ^ 16 % 2 = 0
      ∧ mnemonicOf arch (BitVec.ofNat 8 (w.toNat / 2 ^ 18)) = some i.mnemonic
      ∧ i.fields =
        { offset := BitVec.ofNat 16 w.toNat
          gds := decide (w.toNat / 2 ^ 17 % 2 = 1)
          addr := BitVec.ofNat 8 (w.toNat / 2 ^ 32)
          vdata0 := BitVec.ofNat 8 (w.toNat / 2 ^ 40)
          vdata1 := BitVec.ofNat 8 (w.toNat / 2 ^ 48)
          vdst := BitVec.ofNat 8 (w.toNat / 2 ^ 56) }

/-- R84: a word with bit 16 clear is the instruction of an opcode exactly when its masked bits match. -/
def Obligations.MatchAndMaskSelectTheInstruction : Prop :=
  ∀ (arch : Arch) (w : InstrWord) (m : Mnemonic) (op : BitVec 8), opcodeOf arch m = some op → w.getLsbD 16 = false →
    ((∃ i, decode .sourceTable arch w = .ds i ∧ i.mnemonic = m) ↔ w &&& opcodeMask = opcodeMatch op)

/-- R79: an encoder writes 0 in bit 16; a word with bit 16 set has the outcome `IllegalEncoding`. -/
def Obligations.BitSixteenIsZeroOrIllegal : Prop :=
  (∀ (layout : DsLayout) (arch : Arch) (i : Instr) (w : InstrWord),
      encode layout arch i = some w → w.getLsbD 16 = false)
  ∧ (∀ (layout : DsLayout) (arch : Arch) (w : InstrWord),
      encodingField w = 0b110110#6 → w.getLsbD 16 = true → decode layout arch w = .illegal .bit16)
  ∧ ∀ (s : State) (w : InstrWord), s.fetch = .word w → w.getLsbD 16 = true →
      ∃ reason, step s = .fault (.illegalEncoding s.pc w reason)

/-- R83: the unassigned opcodes are the listed ones, and a DS word with one of them is `IllegalEncoding`. -/
def Obligations.UnassignedOpcodesAreIllegal : Prop :=
  unlistedOpcodes.length = 104
  ∧ (∀ (arch : Arch) (op : BitVec 8),
      mnemonicOf arch op = none ↔ op.toNat ∈ unlistedOpcodes ∨ op.toNat ∈ gapsOn arch)
  ∧ ∀ (s : State) (w : InstrWord), s.fetch = .word w → encodingField w = 0b110110#6 → w.getLsbD 16 = false →
      ((opcodeField w).toNat ∈ unlistedOpcodes ∨ (opcodeField w).toNat ∈ gapsOn s.params.arch) →
      decode s.params.layout s.params.arch w = .illegal .unassignedOpcode
      ∧ step s = .fault (.illegalEncoding s.pc w .unassignedOpcode)

/-- R81: on each version opcode numbers and mnemonics select each other. -/
def Obligations.OpcodeMapIsOneToOne : Prop :=
  ∀ (arch : Arch) (m : Mnemonic) (op : BitVec 8), opcodeOf arch m = some op ↔ mnemonicOf arch op = some m

/-- R82: which mnemonics each version lacks, which move on GCN 1.2, and the four opcodes that differ by version. -/
def Obligations.VersionDifferences : Prop :=
  (∀ m : Mnemonic,
    m ∈ [.dsNop, .dsWrapRtnB32, .dsCondxchg32RtnB64, .dsWriteB96, .dsWriteB128, .dsCondxchg32RtnB128,
      .dsReadB96, .dsReadB128] →
    opcodeOf .gcn10 m = none ∧ (opcodeOf .gcn11 m).isSome = true ∧ opcodeOf .gcn12 m = opcodeOf .gcn11 m)
  ∧ (opcodeOf .gcn10 .dsGwsSemaReleaseAll = none ∧ opcodeOf .gcn11 .dsGwsSemaReleaseAll = some 24
      ∧ opcodeOf .gcn12 .dsGwsSemaReleaseAll = some 152)
  ∧ (∀ p : Mnemonic × BitVec 8,
      p ∈ [(.dsAddF32, 21), (.dsAddRtnF32, 53), (.dsAddSrc2F32, 149), (.dsPermuteB32, 62), (.dsBpermuteB32, 63)] →
      opcodeOf .gcn10 p.1 = none ∧ opcodeOf .gcn11 p.1 = none ∧ opcodeOf .gcn12 p.1 = some p.2)
  ∧ (∀ p : Mnemonic × BitVec 8 × BitVec 8,
      p ∈ [(.dsGwsInit, 25, 153), (.dsGwsSemaV, 26, 154), (.dsGwsSemaBr, 27, 155), (.dsGwsSemaP, 28, 156),
        (.dsGwsBarrier, 29, 157), (.dsSwizzleB32, 53, 61), (.dsConsume, 61, 189), (.dsAppend, 62, 190),
        (.dsOrderedCount, 63, 191), (.dsWriteSrc2B64, 204, 205)] →
      opcodeOf .gcn10 p.1 = some p.2.1 ∧ opcodeOf .gcn11 p.1 = some p.2.1 ∧ opcodeOf .gcn12 p.1 = some p.2.2)
  ∧ (∀ m : Mnemonic, m.presentOn .gcn10 = true →
      m ∉ [.dsGwsInit, .dsGwsSemaV, .dsGwsSemaBr, .dsGwsSemaP, .dsGwsBarrier, .dsSwizzleB32, .dsConsume,
        .dsAppend, .dsOrderedCount, .dsWriteSrc2B64] →
      opcodeOf .gcn11 m = opcodeOf .gcn10 m ∧ opcodeOf .gcn12 m = opcodeOf .gcn10 m
      ∧ (opcodeOf .gcn10 m).isSome = true)

/-- R78: `OFFSET` is `OFFSET1` followed by `OFFSET0`, the two low bytes of the word. -/
def Obligations.OffsetHalvesAreTheLowBytes : Prop :=
  ∀ (layout : DsLayout) (w : InstrWord),
    (fieldsOf layout w).offset = (fieldsOf layout w).offset1 ++ (fieldsOf layout w).offset0
    ∧ (fieldsOf layout w).offset0.toNat = w.toNat % 256 ∧ (fieldsOf layout w).offset1.toNat = w.toNat / 256 % 256

/-- R80, R88, R89: what an assembler line that is no error stands for: its mnemonic, its register operands, each in
the field the class gives its place in the line, its `GDS` flag, its offsets (0 where omitted, in the 16-bit view or
the two 8-bit views as the class takes), and 0 in the fields it does not use (a line is tokenised: log entry 25). -/
def Obligations.AssembledTermsSayWhatTheLineSays : Prop :=
  ∀ (line : AsmLine) (i : Instr), assemble line = some i →
    i.mnemonic = line.mnemonic ∧ i.unusedFieldsZero = true ∧ i.fields.gds = line.gds
    ∧ line.regs = registerOperands line.mnemonic.operandClass.uses i.fields
    ∧ (if line.mnemonic.operandClass.twoOffsets then
        i.fields.offset0.toNat = line.offset0.getD 0 ∧ i.fields.offset1.toNat = line.offset1.getD 0
      else i.fields.offset.toNat = line.offset.getD 0)

/-- A sanity statement: words of the spec's encoding examples decode to the instructions they stand for. -/
def Obligations.EncodingExamplesDecode : Prop :=
  decode .sourceTable .gcn10 0x00FDFEFFD830FFFF = .ds (.dsMskorB32 ⟨65535, false, 255, 254, 253, 0⟩)
  ∧ decode .sourceTable .gcn11 0x00302010D83A80FF = .ds (.dsWrite2B32 ⟨0x80FF, true, 16, 32, 48, 0⟩)
  ∧ decode .sourceTable .gcn12 0x08000201D8800010 = .ds (.dsAddRtnU32 ⟨16, false, 1, 2, 0, 8⟩)
  ∧ decode .sourceTable .gcn12 0x08000001D9E00301 = .ds (.dsRead2st64B64 ⟨0x301, false, 1, 0, 0, 8⟩)
  ∧ decode .sourceTable .gcn11 0x00000000D8620010 = .ds (.dsGwsSemaReleaseAll ⟨16, true, 0, 0, 0, 0⟩)

/-! ## The step and the run -/

/-- R85, R92, R300: when the eight bytes at `pc` hold a word that decodes to an instruction, the step is its `exec`;
the step adds nothing around it. -/
def Obligations.StepRunsTheDecodedInstruction : Prop :=
  ∀ (s : State) (w : InstrWord) (i : Instr), AtProgramWord s → HoldsWord s.imem s.pc w →
    decode s.params.layout s.params.arch w = .ds i → step s = exec i s

/-- R303: a word that is no DS instruction, or that the decoder rejects, ends the run with `IllegalEncoding`. -/
def Obligations.StepStopsOnWhatDoesNotDecode : Prop :=
  ∀ (s : State) (w : InstrWord), AtProgramWord s → HoldsWord s.imem s.pc w →
    (∀ i, decode s.params.layout s.params.arch w ≠ .ds i) →
    ∃ reason, step s = .fault (.illegalEncoding s.pc w reason)
      ∧ (reason = .notDs ↔ encodingField w ≠ 0b110110#6)

/-- R32, R326: after `k` completed steps `pc` has moved by `8k`, so a run from the first word of a program is at the
normal end exactly after as many completed steps as the program has words; there the step gives no next state (the
form of that stop, `runEnded`, is the model's choice: log entry 15). -/
def Obligations.RunEndsAfterTheProgramsWords : Prop :=
  ∀ (s t : State) (k : Nat), s.pc = s.progStart → Host.Core.run core k s = .next t →
    t.pc = s.pc + 8 * k ∧ (t.ended ↔ k = s.progWords) ∧ (t.ended → step t = .refused .runEnded)

/-- The invariant holds at reset. The values of reset that R5 does not decide are the model's choice: the spec has no
reset (R320) and gives no launch value (log entries 1, 3 to 5). -/
def Obligations.ResetMeetsTheInvariant : Prop := State.reset.Inv

/-- Every step from any state that meets the invariant gives a state that meets it. -/
def Obligations.StepKeepsTheInvariant : Prop :=
  ∀ s t : State, s.Inv → step s = .next t → t.Inv

/-- R28 item 4, R31, R32, R35, R63: whatever the instruction, a next state has the same launch parameters, `M0`, active
mask and program, and `pc` has moved by 8. -/
def Obligations.ExecKeepsTheLaunchAndAdvancesPc : Prop :=
  ∀ (i : Instr) (s t : State), exec i s = .next t → SameLaunch s t ∧ t.pc = s.pc + 8

/-- R31: the registers of a lane that is not active are not written, whatever the instruction. -/
def Obligations.InactiveLanesKeepTheirRegisters : Prop :=
  ∀ (i : Instr) (s t : State) (r l : Nat), exec i s = .next t → l ∉ s.activeLanes → r < 256 →
    t.vreg r l = s.vreg r l ∧ t.holdsValue r l = s.holdsValue r l

/-- R37: an element that holds a value goes on holding one (that marks say which do: log entry 6). -/
def Obligations.WrittenRegistersStayWritten : Prop :=
  ∀ (i : Instr) (s t : State) (r l : Nat), exec i s = .next t → s.holdsValue r l = true → t.holdsValue r l = true

/-- R45: the memory the instruction does not select neither changes nor influences anything: with other contents
there, the outcome is the same but for those contents. -/
def Obligations.UnselectedMemoryIsSeparate : Prop :=
  ∀ (i : Instr) (s : State) (sp : Space) (m : Memory), sp ≠ space i.fields →
    exec i (s.setMem sp m) =
      match exec i s with
      | .next t => .next (t.setMem sp m)
      | .fault r => .fault r
      | .refused r => .refused r

/-- R300, R301, R302, R303: the outcomes a meaning can have, each with its information. That `ea` is none where the sum
reaches 2^32 is log entry 20 (from test vector X13 of spec/95_test_vectors.md), and no rule's. -/
def Obligations.ExecHasTheOutcomesOfTheSpec : Prop :=
  ∀ (i : Instr) (s : State),
    (∃ t, exec i s = .next t)
    ∨ (∃ reason, exec i s = .refused (.refused s.pc i.mnemonic reason))
    ∨ (∃ r, exec i s = .fault (.unwrittenRegister r))
    ∨ ∃ l a, exec i s = .fault (.dsOutOfRange (space i.fields) l a.sum
        (if a.sum < 2 ^ 32 then some a.ea else none) a.width (s.limit (space i.fields)))
        ∧ l ∈ s.activeLanes ∧ ¬ Admitted s (space i.fields) a

/-! ## What the instructions do -/

/-- R101 to R105. -/
def Obligations.AddSubtractIncrementDecrement32 : Prop :=
  Rmw32 .dsAddU32 false false false (fun x d0 _ => x + d0)
  ∧ Rmw32 .dsSubU32 false false false (fun x d0 _ => x - d0)
  ∧ Rmw32 .dsRsubU32 false false false (fun x d0 _ => d0 - x)
  ∧ Rmw32 .dsIncU32 false false false (fun x d0 _ => incOf x d0)
  ∧ Rmw32 .dsDecU32 false false false (fun x d0 _ => decOf x d0)

/-- R106 to R109. -/
def Obligations.MinimumMaximum32 : Prop :=
  Rmw32 .dsMinI32 false false false (fun x d0 _ => minsOf x d0)
  ∧ Rmw32 .dsMaxI32 false false false (fun x d0 _ => maxsOf x d0)
  ∧ Rmw32 .dsMinU32 false false false (fun x d0 _ => minuOf x d0)
  ∧ Rmw32 .dsMaxU32 false false false (fun x d0 _ => maxuOf x d0)

/-- R110 to R113. -/
def Obligations.Bitwise32 : Prop :=
  Rmw32 .dsAndB32 false false false (fun x d0 _ => x &&& d0)
  ∧ Rmw32 .dsOrB32 false false false (fun x d0 _ => x ||| d0)
  ∧ Rmw32 .dsXorB32 false false false (fun x d0 _ => x ^^^ d0)
  ∧ Rmw32 .dsMskorB32 false true false (fun x d0 d1 => (x &&& ~~~d0) ||| d1)

/-- R114, a reading under `ADMIT_GK` (log entry 19). -/
def Obligations.CompareStore32 : Prop :=
  Rmw32 .dsCmpstB32 true true false (fun x d0 d1 => if x = d0 then d1 else x)

/-- R121; R124 to R126, readings under `ADMIT_GK` (log entry 19). -/
def Obligations.Stores : Prop :=
  Store .dsWriteB32 false 1 4 (fun f s l => (s.vreg f.vdata0.toNat l).toNat)
  ∧ Store .dsWriteB8 true 1 1 (fun f s l => (s.vreg f.vdata0.toNat l).toNat)
  ∧ Store .dsWriteB16 true 1 2 (fun f s l => (s.vreg f.vdata0.toNat l).toNat)
  ∧ Store .dsWriteB64 true 2 8 (fun f s l => (vpair s f.vdata0.toNat l).toNat)

/-- R122, and R58 for equal addresses. -/
def Obligations.TwoDwordStores : Prop := Store2Dwords .dsWrite2B32 false 4

/-- R123, R127, R128, readings under `ADMIT_GK` (log entry 19). -/
def Obligations.WideAndStridedTwoAddressStores : Prop :=
  Store2Dwords .dsWrite2st64B32 true 256 ∧ Store2Qwords .dsWrite2B64 8 ∧ Store2Qwords .dsWrite2st64B64 512

/-- R141 to R149, readings under `ADMIT_GK` (log entry 19): the function of the instruction without return, and the old
value in `VDST`. -/
def Obligations.ReturningArithmetic32 : Prop :=
  Rmw32 .dsAddRtnU32 true false true (fun x d0 _ => x + d0)
  ∧ Rmw32 .dsSubRtnU32 true false true (fun x d0 _ => x - d0)
  ∧ Rmw32 .dsRsubRtnU32 true false true (fun x d0 _ => d0 - x)
  ∧ Rmw32 .dsIncRtnU32 true false true (fun x d0 _ => incOf x d0)
  ∧ Rmw32 .dsDecRtnU32 true false true (fun x d0 _ => decOf x d0)
  ∧ Rmw32 .dsMinRtnI32 true false true (fun x d0 _ => minsOf x d0)
  ∧ Rmw32 .dsMaxRtnI32 true false true (fun x d0 _ => maxsOf x d0)
  ∧ Rmw32 .dsMinRtnU32 true false true (fun x d0 _ => minuOf x d0)
  ∧ Rmw32 .dsMaxRtnU32 true false true (fun x d0 _ => maxuOf x d0)

/-- R150 to R154, R157, readings under `ADMIT_GK` (log entry 19). -/
def Obligations.ReturningBitwiseExchangeCompare32 : Prop :=
  Rmw32 .dsAndRtnB32 true false true (fun x d0 _ => x &&& d0)
  ∧ Rmw32 .dsOrRtnB32 true false true (fun x d0 _ => x ||| d0)
  ∧ Rmw32 .dsXorRtnB32 true false true (fun x d0 _ => x ^^^ d0)
  ∧ Rmw32 .dsMskorRtnB32 true true true (fun x d0 d1 => (x &&& ~~~d0) ||| d1)
  ∧ Rmw32 .dsWrxchgRtnB32 true false true (fun _ d0 _ => d0)
  ∧ Rmw32 .dsCmpstRtnB32 true true true (fun x d0 d1 => if x = d0 then d1 else x)

/-- R155, R156, readings under `ADMIT_GK` (log entry 19). -/
def Obligations.TwoDwordExchanges : Prop :=
  Exchange2Dwords .dsWrxchg2RtnB32 4 ∧ Exchange2Dwords .dsWrxchg2st64RtnB32 256

/-- R222, R223, readings under `ADMIT_GK` (log entry 19). -/
def Obligations.TwoQwordExchanges : Prop :=
  Exchange2Qwords .dsWrxchg2RtnB64 8 ∧ Exchange2Qwords .dsWrxchg2st64RtnB64 512

/-- R171, R174 to R177, readings under `ADMIT_GK` (log entry 19): a dword, a byte and 16 bits, sign- and zero-extended. -/
def Obligations.LoadsIntoOneRegister : Prop :=
  Load .dsReadB32 4 (fun f s l => dword s (space f) (access 4 f s l).ea)
  ∧ Load .dsReadI8 1 (fun f s l => (s.byteAt (space f) (access 1 f s l).sum).signExtend 32)
  ∧ Load .dsReadU8 1 (fun f s l => (s.byteAt (space f) (access 1 f s l).sum).setWidth 32)
  ∧ Load .dsReadI16 2 (fun f s l =>
      (s.byteAt (space f) ((access 2 f s l).ea + 1) ++ s.byteAt (space f) (access 2 f s l).ea).signExtend 32)
  ∧ Load .dsReadU16 2 (fun f s l =>
      (s.byteAt (space f) ((access 2 f s l).ea + 1) ++ s.byteAt (space f) (access 2 f s l).ea).setWidth 32)

/-- R172, R173, R178 to R180, readings under `ADMIT_GK` (log entry 19). -/
def Obligations.LoadsIntoSeveralRegisters : Prop :=
  Runs (loadShape .dsReadB64 2 8) (fun f s t l =>
    vpair t f.vdst.toNat l = qword s (space f) (access 8 f s l).ea
    ∧ ∀ i < 2, t.holdsValue (f.vdst.toNat + i) l = true)
  ∧ (∀ p : (DsFields → Instr) × Nat, p ∈ [(.dsRead2B32, 4), (.dsRead2st64B32, 256)] →
      Runs (load2Shape p.1 32 p.2) (fun f s t l =>
        t.vreg f.vdst.toNat l = dword s (space f) (access0 p.2 4 f s l).ea
        ∧ t.vreg (f.vdst.toNat + 1) l = dword s (space f) (access1 p.2 4 f s l).ea
        ∧ ∀ i < 2, t.holdsValue (f.vdst.toNat + i) l = true))
  ∧ ∀ p : (DsFields → Instr) × Nat, p ∈ [(.dsRead2B64, 8), (.dsRead2st64B64, 512)] →
      Runs (load2Shape p.1 64 p.2) (fun f s t l =>
        vpair t f.vdst.toNat l = qword s (space f) (access0 p.2 8 f s l).ea
        ∧ vpair t (f.vdst.toNat + 2) l = qword s (space f) (access1 p.2 8 f s l).ea
        ∧ ∀ i < 4, t.holdsValue (f.vdst.toNat + i) l = true)

/-- R191 to R199, readings under `ADMIT_GK` (log entry 19). -/
def Obligations.Arithmetic64 : Prop :=
  Rmw64 .dsAddU64 false false (fun x d0 _ => x + d0)
  ∧ Rmw64 .dsSubU64 false false (fun x d0 _ => x - d0)
  ∧ Rmw64 .dsRsubU64 false false (fun x d0 _ => d0 - x)
  ∧ Rmw64 .dsIncU64 false false (fun x d0 _ => incOf x d0)
  ∧ Rmw64 .dsDecU64 false false (fun x d0 _ => decOf x d0)
  ∧ Rmw64 .dsMinI64 false false (fun x d0 _ => minsOf x d0)
  ∧ Rmw64 .dsMaxI64 false false (fun x d0 _ => maxsOf x d0)
  ∧ Rmw64 .dsMinU64 false false (fun x d0 _ => minuOf x d0)
  ∧ Rmw64 .dsMaxU64 false false (fun x d0 _ => maxuOf x d0)

/-- R200 to R204, readings under `ADMIT_GK` (log entry 19). -/
def Obligations.BitwiseCompare64 : Prop :=
  Rmw64 .dsAndB64 false false (fun x d0 _ => x &&& d0)
  ∧ Rmw64 .dsOrB64 false false (fun x d0 _ => x ||| d0)
  ∧ Rmw64 .dsXorB64 false false (fun x d0 _ => x ^^^ d0)
  ∧ Rmw64 .dsMskorB64 true false (fun x d0 d1 => (x &&& ~~~d0) ||| d1)
  ∧ Rmw64 .dsCmpstB64 true false (fun x d0 d1 => if x = d0 then d1 else x)

/-- R208 to R216, readings under `ADMIT_GK` (log entry 19). -/
def Obligations.ReturningArithmetic64 : Prop :=
  Rmw64 .dsAddRtnU64 false true (fun x d0 _ => x + d0)
  ∧ Rmw64 .dsSubRtnU64 false true (fun x d0 _ => x - d0)
  ∧ Rmw64 .dsRsubRtnU64 false true (fun x d0 _ => d0 - x)
  ∧ Rmw64 .dsIncRtnU64 false true (fun x d0 _ => incOf x d0)
  ∧ Rmw64 .dsDecRtnU64 false true (fun x d0 _ => decOf x d0)
  ∧ Rmw64 .dsMinRtnI64 false true (fun x d0 _ => minsOf x d0)
  ∧ Rmw64 .dsMaxRtnI64 false true (fun x d0 _ => maxsOf x d0)
  ∧ Rmw64 .dsMinRtnU64 false true (fun x d0 _ => minuOf x d0)
  ∧ Rmw64 .dsMaxRtnU64 false true (fun x d0 _ => maxuOf x d0)

/-- R217 to R221, R224, readings under `ADMIT_GK` (log entry 19). -/
def Obligations.ReturningBitwiseExchangeCompare64 : Prop :=
  Rmw64 .dsAndRtnB64 false true (fun x d0 _ => x &&& d0)
  ∧ Rmw64 .dsOrRtnB64 false true (fun x d0 _ => x ||| d0)
  ∧ Rmw64 .dsXorRtnB64 false true (fun x d0 _ => x ^^^ d0)
  ∧ Rmw64 .dsMskorRtnB64 true true (fun x d0 d1 => (x &&& ~~~d0) ||| d1)
  ∧ Rmw64 .dsWrxchgRtnB64 false true (fun _ d0 _ => d0)
  ∧ Rmw64 .dsCmpstRtnB64 true true (fun x d0 d1 => if x = d0 then d1 else x)

/-- R281, a reading under `ADMIT_GK` (log entry 19): whatever the state and the fields, nothing changes but `pc`. -/
def Obligations.NopOnlyAdvancesPc : Prop :=
  ∀ (f : DsFields) (s : State), s.params.admitGk = true → exec (.dsNop f) s = .next { s with pc := s.pc + 8 }

/-! ## The order of the lanes -/

/-- R59: the effect of an atomic on memory is that of the lanes' operations one after another, in some order of the
active lanes, and the values it returns are those of that order. The atomics that are not described rest on readings
(log entry 19), the two-address exchanges on the order of their two accesses (log entry 17). -/
def Obligations.AtomicsRunTheLanesInSomeOrder : Prop :=
  ∀ o ∈ atomicOperations, ∀ (f : DsFields) (s : State), Ready o.shape f s →
    ∃ (t : State) (order : List Nat), exec (o.shape.instr f) s = .next t ∧ TakesOrder o plainPort f s t order

/-- R59: every order is possible, for atomics and stores: for each order of the active lanes there is a choice the
machine may be given under which the lanes take effect, and return their values, in that order (how a choice is
supplied is the model's: log entry 7; instructions that are not described: log entry 19; the order of one lane's two
accesses: log entry 17). -/
def Obligations.EveryLaneOrderIsPossible : Prop :=
  ∀ o ∈ atomicOperations ++ storeOperations, ∀ (f : DsFields) (s : State) (order tape : List Nat),
    Ready o.shape f s → order.Perm s.activeLanes →
    ∃ c t, exec (o.shape.instr f) { s with laneTape := c :: tape } = .next t ∧ TakesOrder o plainPort f s t order

/-- R59 item 2: for these atomics the memory left does not depend on the order, even where lanes collide. -/
def Obligations.OrderFreeAtomicsIgnoreTheOrder : Prop :=
  ∀ i ∈ orderFreeAtomics, ∀ (f : DsFields) (s t : State) (tape : List Nat), exec (i f) s = .next t →
    ∃ u, exec (i f) { s with laneTape := tape } = .next u
      ∧ ∀ sp b, u.byteAt sp b = t.byteAt sp b

/-- R59 item 3: two lanes of `DS_RSUB_U32` on one dword can leave either of two values. -/
def Obligations.ReverseSubtractDependsOnTheOrder : Prop :=
  ∀ (f : DsFields) (s : State) (k l : Nat), Ready (rmwShape .dsRsubU32 false 32 false false) f s →
    s.activeLanes = [k, l] → (access 4 f s k).ea = (access 4 f s l).ea →
    (∃ c t, exec (.dsRsubU32 f) { s with laneTape := [c] } = .next t
      ∧ dword t (space f) (access 4 f s k).ea
        = s.vreg f.vdata0.toNat l - (s.vreg f.vdata0.toNat k - dword s (space f) (access 4 f s k).ea))
    ∧ ∃ c t, exec (.dsRsubU32 f) { s with laneTape := [c] } = .next t
      ∧ dword t (space f) (access 4 f s k).ea
        = s.vreg f.vdata0.toNat k - (s.vreg f.vdata0.toNat l - dword s (space f) (access 4 f s k).ea)

/-- R101: when every active lane addresses one dword, `DS_ADD_U32` leaves the old value plus the sum of their data. -/
def Obligations.AddSumsTheLanes : Prop :=
  ∀ (f : DsFields) (s : State) (ea : Nat), Ready (rmwShape .dsAddU32 false 32 false false) f s →
    (∀ l ∈ s.activeLanes, (access 4 f s l).ea = ea) →
    ∃ t, exec (.dsAddU32 f) s = .next t
      ∧ dword t (space f) ea
        = dword s (space f) ea + (s.activeLanes.map (fun l => s.vreg f.vdata0.toNat l)).sum

/-- R103, R112 (applied twice, the old value is back) and R67, R108 to R111 (applied twice, nothing more changes), for
one active lane. -/
def Obligations.RepeatingAnInstruction : Prop :=
  (∀ i ∈ ([.dsRsubU32, .dsXorB32] : List (DsFields → Instr)), ∀ (f : DsFields) (s : State) (l : Nat),
    Ready (rmwShape i false 32 false false) f s → s.activeLanes = [l] →
    ∃ t u, exec (i f) s = .next t ∧ exec (i f) t = .next u ∧ ∀ sp b, u.byteAt sp b = s.byteAt sp b)
  ∧ ∀ i ∈ ([.dsMinI32, .dsMaxI32, .dsMinU32, .dsMaxU32, .dsAndB32, .dsOrB32] : List (DsFields → Instr)),
    ∀ (f : DsFields) (s : State) (l : Nat),
    Ready (rmwShape i false 32 false false) f s → s.activeLanes = [l] →
    ∃ t u, exec (i f) s = .next t ∧ exec (i f) t = .next u ∧ ∀ sp b, u.byteAt sp b = t.byteAt sp b

/-- R58: the two addresses of `DS_WRITE2_B32` are the same exactly when the offsets are, and then the dword ends holding
`D1`. -/
def Obligations.SecondStoreWins : Prop :=
  ∀ (f : DsFields) (s : State) (l : Nat),
    ((access0 4 4 f s l).ea = (access1 4 4 f s l).ea ↔ f.offset0 = f.offset1)
    ∧ (Ready (store2Shape .dsWrite2B32 false 32 4) f s → l ∈ s.activeLanes →
        Alone (store2Shape .dsWrite2B32 false 32 4) f s l → f.offset0 = f.offset1 →
        ∃ t, exec (.dsWrite2B32 f) s = .next t
          ∧ dword t (space f) (access0 4 4 f s l).ea = s.vreg f.vdata1.toNat l)

/-! ## The stops and their order -/

/-- R303 item 2: an instruction of the `low` tier is refused whatever the state, as `undescribed` also where it
names a register outside the file (log entry 27). -/
def Obligations.LowTierIsAlwaysRefused : Prop :=
  refusedMnemonics.length = 64
  ∧ ∀ m ∈ refusedMnemonics, ∀ (f : DsFields) (s : State),
      exec (m.instr f) s = .refused (.refused s.pc m .undescribed)

/-- R303 item 1: with `ADMIT_GK` false an instruction with a reading is refused whatever the state, as `undescribed`
also where it names a register outside the file (log entry 27). -/
def Obligations.ReadingsNeedAdmitGk : Prop :=
  readingMnemonics.length = 66
  ∧ ∀ m ∈ readingMnemonics, ∀ (f : DsFields) (s : State), s.params.admitGk = false →
      exec (m.instr f) s = .refused (.refused s.pc m .undescribed)

/-- R25, R27, R303 item 3: an instruction that names a register outside the file is refused, before anything else of it
is looked at (that this is checked for every operand, with no active lane too: log entry 22). -/
def Obligations.RegisterOutOfFileIsRefused : Prop :=
  ∀ sh ∈ memoryShapes, ∀ (f : DsFields) (s : State), (sh.gk = true → s.params.admitGk = true) →
    (∃ r ∈ sh.dest f :: sh.sources f, r.count ≠ 0 ∧ min s.params.vgprAlloc 256 < r.first + r.count) →
    exec (sh.instr f) s = .refused (.refused s.pc (sh.instr f).mnemonic .registerOutOfFile)

/-- R31: with no active lane an instruction that accesses memory changes `pc` only, and needs neither `M0` nor a
register to hold a value. -/
def Obligations.NoActiveLaneOnlyAdvancesPc : Prop :=
  ∀ sh ∈ memoryShapes, ∀ (f : DsFields) (s : State), (sh.gk = true → s.params.admitGk = true) →
    (∀ r ∈ sh.dest f :: sh.sources f, r.count = 0 ∨ r.first + r.count ≤ min s.params.vgprAlloc 256) →
    s.activeLanes = [] → exec (sh.instr f) s = .next { s with pc := s.pc + 8 }

/-- R302, R305 item 3: `M0` is asked for first, whichever space is selected. -/
def Obligations.UnwrittenM0StopsFirst : Prop :=
  ∀ sh ∈ memoryShapes, ∀ (f : DsFields) (s : State), Executes sh f s → s.m0Written = false →
    exec (sh.instr f) s = .fault (.unwrittenRegister .m0)

/-- R302, R305 item 4: then the first source element that holds no value, of the lowest-numbered active lane that has
one, whatever the addresses are. Inside an operand of several registers the lowest-numbered comes first, which R305 leaves
open (log entry 26). -/
def Obligations.UnwrittenRegisterStopsNext : Prop :=
  ∀ sh ∈ memoryShapes, ∀ (f : DsFields) (s : State) (lanes lanes2 : List Nat) (l : Nat) (regs regs2 : List Nat)
    (r : Nat), Executes sh f s → s.m0Written = true →
    s.activeLanes = lanes ++ l :: lanes2 → sourceRegisters sh f = regs ++ r :: regs2 →
    (∀ k ∈ lanes, ∀ q ∈ sourceRegisters sh f, s.holdsValue q k = true) →
    (∀ q ∈ regs, s.holdsValue q l = true) → s.holdsValue r l = false →
    exec (sh.instr f) s = .fault (.unwrittenRegister (.vector r l))

/-- R301, R305 item 5: then the first access that is not admitted, of the lowest-numbered active lane that has one;
where `OOR_POLICY` is `fault` (R53), or the access is to GDS (log entries 11, 20). -/
def Obligations.OutOfRangeStopsLast : Prop :=
  ∀ sh ∈ memoryShapes, ∀ (f : DsFields) (s : State) (lanes lanes2 : List Nat) (l : Nat) (accs accs2 : List Access)
    (a : Access), Executes sh f s → s.m0Written = true →
    (∀ k ∈ s.activeLanes, ∀ q ∈ sourceRegisters sh f, s.holdsValue q k = true) →
    (s.params.oorPolicy = .fault ∨ space f = .gds) →
    s.activeLanes = lanes ++ l :: lanes2 → sh.accesses f s l = accs ++ a :: accs2 →
    (∀ k ∈ lanes, ∀ b ∈ sh.accesses f s k, Admitted s (space f) b) →
    (∀ b ∈ accs, Admitted s (space f) b) → ¬ Admitted s (space f) a →
    exec (sh.instr f) s = .fault (.dsOutOfRange (space f) l a.sum
      (if a.sum < 2 ^ 32 then some a.ea else none) a.width (s.limit (space f)))

/-- R53, the alternative `OOR_POLICY = zero_drop`, in LDS, for all 80 instructions that access memory: they complete
with their frame kept and their lanes one after another in some order, where each access that is not admitted reads 0
and writes nothing while a lane's other access is made; so no byte outside the admitted accesses changes, and the
destination registers of an access that is not admitted are 0. R53 says that no claim certified against the spec may
rest on `zero_drop`; that it goes access by access is the model's choice (log entry 11). -/
def Obligations.ZeroDropReadsZeroAndDropsWrites : Prop :=
  ∀ o ∈ memoryOperations, ∀ (f : DsFields) (s : State), s.params.oorPolicy = .zeroDrop → f.gds = false →
    Executes o.shape f s → s.m0Written = true →
    (∀ l ∈ s.activeLanes, ∀ r ∈ sourceRegisters o.shape f, s.holdsValue r l = true) →
    ∃ (t : State) (order : List Nat), exec (o.shape.instr f) s = .next t ∧ Frame o.shape f s t
      ∧ TakesOrder o (droppingPort s .lds) f s t order
      ∧ (∀ b, (∀ l ∈ s.activeLanes, ∀ a ∈ o.shape.accesses f s l, Admitted s .lds a → ¬ Covers a b) →
          t.byteAt .lds b = s.byteAt .lds b)
      ∧ ∀ l ∈ s.activeLanes, ∀ (j : Nat) (a : Access), (o.shape.accesses f s l)[j]? = some a →
          ¬ Admitted s .lds a →
          ∀ i < (o.shape.dest f).count / (o.shape.accesses f s l).length,
            t.vreg ((o.shape.dest f).first + j * ((o.shape.dest f).count / (o.shape.accesses f s l).length) + i) l = 0

/-! ## Addresses and memory -/

/-- R47 to R50: the sum is exact, the effective address is the sum with its low bits cleared (`& ~3` for a dword, and as
many bits as the width asks for in the readings), and for `DS_WRITE2_B32` it is `(A & ~3) + 4 * OFFSETn`. -/
def Obligations.EffectiveAddresses : Prop :=
  ∀ (f : DsFields) (s : State) (l : Nat),
    (∀ n ∈ [1, 2, 4, 8], (access n f s l).sum = (s.vreg f.addr.toNat l).toNat + f.offset.toNat
      ∧ (access n f s l).ea % n = 0 ∧ (access n f s l).ea ≤ (access n f s l).sum
      ∧ (access n f s l).sum < (access n f s l).ea + n)
    ∧ BitVec.ofNat 32 (access 4 f s l).ea = BitVec.ofNat 32 (access 4 f s l).sum &&& 0xFFFFFFFC
    ∧ (access0 4 4 f s l).ea = (s.vreg f.addr.toNat l &&& 0xFFFFFFFC).toNat + 4 * f.offset0.toNat
    ∧ (access1 4 4 f s l).ea = (s.vreg f.addr.toNat l &&& 0xFFFFFFFC).toNat + 4 * f.offset1.toNat

/-- R54: `MemRead` is the sum of the bytes by powers of 256, and `MemWrite` sets byte `i` to bits `8i+7` to `8i` and no
other byte. The byte order is the spec's choice from general knowledge (log entry 12). -/
def Obligations.MemoryIsLittleEndian : Prop :=
  (∀ (m : Memory) (a n : Nat),
    memRead m a n = ((List.range n).map (fun i => (cellGet m (a + i)).toNat * 256 ^ i)).sum)
  ∧ ∀ (m : Memory) (a n x b : Nat),
    cellGet (memWrite m a n x) b
      = if a ≤ b ∧ b < a + n then (BitVec.ofNat (8 * n) x).extractLsb' (8 * (b - a)) 8 else cellGet m b

/-! ## Lanes that collide in a store -/

/-- R59 item 3, R57: the effect of a store on memory is that of the lanes' stores one after another, in some order of
the active lanes. The stores that are not described rest on readings (log entry 19); that a lane's two stores stand in
statement order is R58 for `DS_WRITE2_B32` and log entry 17 for the others. -/
def Obligations.StoresRunTheLanesInSomeOrder : Prop :=
  ∀ o ∈ storeOperations, ∀ (f : DsFields) (s : State), Ready o.shape f s →
    ∃ (t : State) (order : List Nat), exec (o.shape.instr f) s = .next t ∧ TakesOrder o plainPort f s t order

/-- R121, R59 item 3: where every active lane of `DS_WRITE_B32` addresses one dword, the dword ends holding the `D0` of
one of them, and every lane's `D0` is a possible result. -/
def Obligations.CollidingStoresLeaveAnyLanesData : Prop :=
  ∀ (f : DsFields) (s : State) (ea : Nat), Ready (storeShape .dsWriteB32 false 1 4) f s → s.activeLanes ≠ [] →
    (∀ l ∈ s.activeLanes, (access 4 f s l).ea = ea) →
    (∃ t, exec (.dsWriteB32 f) s = .next t
      ∧ ∃ l ∈ s.activeLanes, dword t (space f) ea = s.vreg f.vdata0.toNat l)
    ∧ ∀ l ∈ s.activeLanes, ∃ c t, exec (.dsWriteB32 f) { s with laneTape := [c] } = .next t
      ∧ dword t (space f) ea = s.vreg f.vdata0.toNat l
end

