-- ==== Sys2Proof/Laws/Decode.lean ====
section
/-! SUPPORT. The fields of a word the encoder puts together, and the small facts about instructions as syntax. -/

namespace Sys2Proof

/-- An instruction made of a mnemonic has that mnemonic. -/
@[simp] theorem mnemonic_instr (m : Mnemonic) (f : DsFields) : (m.instr f).mnemonic = m := by
  cases m <;> rfl

/-- An instruction made of field values has those fields. -/
@[simp] theorem fields_instr (m : Mnemonic) (f : DsFields) : (m.instr f).fields = f := by
  cases m <;> rfl

/-- An instruction is its mnemonic with its fields. -/
@[simp] theorem instr_mnemonic_fields (i : Instr) : i.mnemonic.instr i.fields = i := by
  cases i <;> rfl

section
variable (layout : DsLayout) (op : BitVec 8) (f : DsFields)

/-- `ENCODING` of an encoded word is `0b110110` (R77). -/
theorem encodingField_assembleWord : encodingField (assembleWord layout op f) = 0b110110#6 := by
  cases layout
  refine BitVec.eq_of_getLsbD_eq fun i hi => ?_
  simp only [encodingField, assembleWord, BitVec.getLsbD_extractLsb', BitVec.getLsbD_append]
  interval_cases i <;> simp

/-- `OPCODE` of an encoded word is the opcode. -/
theorem opcodeField_assembleWord : opcodeField (assembleWord layout op f) = op := by
  cases layout
  refine BitVec.eq_of_getLsbD_eq fun i hi => ?_
  simp only [opcodeField, assembleWord, BitVec.getLsbD_extractLsb', BitVec.getLsbD_append]
  interval_cases i <;> simp

/-- Bit 16 of an encoded word is 0 (R79). -/
theorem bit16_assembleWord : (assembleWord layout op f).getLsbD 16 = false := by
  cases layout
  simp only [assembleWord, BitVec.getLsbD_append]
  simp

/-- Every operand field of an encoded word is the field encoded (R76). -/
theorem fieldsOf_assembleWord : fieldsOf layout (assembleWord layout op f) = f := by
  cases layout
  obtain ⟨off, g, a, d0, d1, d⟩ := f
  simp only [fieldsOf, assembleWord, DsFields.mk.injEq]
  refine ⟨?_, ?_, ?_, ?_, ?_, ?_⟩
  case refine_2 =>
    simp only [BitVec.getLsbD_append]
    simp
  all_goals
    refine BitVec.eq_of_getLsbD_eq fun i hi => ?_
    simp only [BitVec.getLsbD_extractLsb', BitVec.getLsbD_append]
    interval_cases i <;> simp

end

end Sys2Proof
end

