-- ==== Sys2Proof/Laws/State.lean ====
section
/-! SUPPORT. One lemma per field per update of the state. -/

namespace Sys2Proof.Machine

/-! ## setMem -/

@[simp] theorem setMem_params (s : State) (sp : Space) (m : Memory) : (s.setMem sp m).params = s.params := by
  cases sp <;> rfl
@[simp] theorem setMem_pc (s : State) (sp : Space) (m : Memory) : (s.setMem sp m).pc = s.pc := by
  cases sp <;> rfl
@[simp] theorem setMem_m0 (s : State) (sp : Space) (m : Memory) : (s.setMem sp m).m0 = s.m0 := by
  cases sp <;> rfl
@[simp] theorem setMem_m0Written (s : State) (sp : Space) (m : Memory) : (s.setMem sp m).m0Written = s.m0Written := by
  cases sp <;> rfl
@[simp] theorem setMem_active (s : State) (sp : Space) (m : Memory) : (s.setMem sp m).active = s.active := by
  cases sp <;> rfl
@[simp] theorem setMem_vgpr (s : State) (sp : Space) (m : Memory) : (s.setMem sp m).vgpr = s.vgpr := by
  cases sp <;> rfl
@[simp] theorem setMem_vgprUnwritten (s : State) (sp : Space) (m : Memory) : (s.setMem sp m).vgprUnwritten = s.vgprUnwritten := by
  cases sp <;> rfl
@[simp] theorem setMem_imem (s : State) (sp : Space) (m : Memory) : (s.setMem sp m).imem = s.imem := by
  cases sp <;> rfl
@[simp] theorem setMem_progStart (s : State) (sp : Space) (m : Memory) : (s.setMem sp m).progStart = s.progStart := by
  cases sp <;> rfl
@[simp] theorem setMem_progWords (s : State) (sp : Space) (m : Memory) : (s.setMem sp m).progWords = s.progWords := by
  cases sp <;> rfl
@[simp] theorem setMem_laneTape (s : State) (sp : Space) (m : Memory) : (s.setMem sp m).laneTape = s.laneTape := by
  cases sp <;> rfl
@[simp] theorem setMem_issued (s : State) (sp : Space) (m : Memory) : (s.setMem sp m).issued = s.issued := by
  cases sp <;> rfl
@[simp] theorem setMem_mem (s : State) (sp : Space) (m : Memory) : (s.setMem sp m).mem sp = m := by
  cases sp <;> rfl
theorem setMem_mem_ne (s : State) {sp sp2 : Space} (m : Memory) (h : sp2 ≠ sp) :
    (s.setMem sp m).mem sp2 = s.mem sp2 := by
  cases sp <;> cases sp2 <;> first | rfl | exact absurd rfl h
@[simp] theorem setMem_vreg (s : State) (sp : Space) (m : Memory) (r l : Nat) : (s.setMem sp m).vreg r l = s.vreg r l := by
  cases sp <;> rfl
@[simp] theorem setMem_holdsValue (s : State) (sp : Space) (m : Memory) (r l : Nat) : (s.setMem sp m).holdsValue r l = s.holdsValue r l := by
  cases sp <;> rfl

/-! ## setVreg -/

@[simp] theorem setVreg_params (s : State) (r l : Nat) (x : Word) : (s.setVreg r l x).params = s.params := rfl
@[simp] theorem setVreg_pc (s : State) (r l : Nat) (x : Word) : (s.setVreg r l x).pc = s.pc := rfl
@[simp] theorem setVreg_m0 (s : State) (r l : Nat) (x : Word) : (s.setVreg r l x).m0 = s.m0 := rfl
@[simp] theorem setVreg_m0Written (s : State) (r l : Nat) (x : Word) : (s.setVreg r l x).m0Written = s.m0Written := rfl
@[simp] theorem setVreg_active (s : State) (r l : Nat) (x : Word) : (s.setVreg r l x).active = s.active := rfl
@[simp] theorem setVreg_lds (s : State) (r l : Nat) (x : Word) : (s.setVreg r l x).lds = s.lds := rfl
@[simp] theorem setVreg_gds (s : State) (r l : Nat) (x : Word) : (s.setVreg r l x).gds = s.gds := rfl
@[simp] theorem setVreg_imem (s : State) (r l : Nat) (x : Word) : (s.setVreg r l x).imem = s.imem := rfl
@[simp] theorem setVreg_progStart (s : State) (r l : Nat) (x : Word) : (s.setVreg r l x).progStart = s.progStart := rfl
@[simp] theorem setVreg_progWords (s : State) (r l : Nat) (x : Word) : (s.setVreg r l x).progWords = s.progWords := rfl
@[simp] theorem setVreg_laneTape (s : State) (r l : Nat) (x : Word) : (s.setVreg r l x).laneTape = s.laneTape := rfl
@[simp] theorem setVreg_issued (s : State) (r l : Nat) (x : Word) : (s.setVreg r l x).issued = s.issued := rfl
@[simp] theorem setVreg_mem (s : State) (r l : Nat) (x : Word) (sp : Space) : (s.setVreg r l x).mem sp = s.mem sp := by
  cases sp <;> rfl

/-! ## setVregs -/

@[simp] theorem setVregs_params (s : State) (r l : Nat) (xs : List Word) : (s.setVregs r l xs).params = s.params := by
  induction xs generalizing s r with
  | nil => rfl
  | cons x rest ih => simp [State.setVregs, ih]
@[simp] theorem setVregs_pc (s : State) (r l : Nat) (xs : List Word) : (s.setVregs r l xs).pc = s.pc := by
  induction xs generalizing s r with
  | nil => rfl
  | cons x rest ih => simp [State.setVregs, ih]
@[simp] theorem setVregs_m0 (s : State) (r l : Nat) (xs : List Word) : (s.setVregs r l xs).m0 = s.m0 := by
  induction xs generalizing s r with
  | nil => rfl
  | cons x rest ih => simp [State.setVregs, ih]
@[simp] theorem setVregs_m0Written (s : State) (r l : Nat) (xs : List Word) : (s.setVregs r l xs).m0Written = s.m0Written := by
  induction xs generalizing s r with
  | nil => rfl
  | cons x rest ih => simp [State.setVregs, ih]
@[simp] theorem setVregs_active (s : State) (r l : Nat) (xs : List Word) : (s.setVregs r l xs).active = s.active := by
  induction xs generalizing s r with
  | nil => rfl
  | cons x rest ih => simp [State.setVregs, ih]
@[simp] theorem setVregs_lds (s : State) (r l : Nat) (xs : List Word) : (s.setVregs r l xs).lds = s.lds := by
  induction xs generalizing s r with
  | nil => rfl
  | cons x rest ih => simp [State.setVregs, ih]
@[simp] theorem setVregs_gds (s : State) (r l : Nat) (xs : List Word) : (s.setVregs r l xs).gds = s.gds := by
  induction xs generalizing s r with
  | nil => rfl
  | cons x rest ih => simp [State.setVregs, ih]
@[simp] theorem setVregs_imem (s : State) (r l : Nat) (xs : List Word) : (s.setVregs r l xs).imem = s.imem := by
  induction xs generalizing s r with
  | nil => rfl
  | cons x rest ih => simp [State.setVregs, ih]
@[simp] theorem setVregs_progStart (s : State) (r l : Nat) (xs : List Word) : (s.setVregs r l xs).progStart = s.progStart := by
  induction xs generalizing s r with
  | nil => rfl
  | cons x rest ih => simp [State.setVregs, ih]
@[simp] theorem setVregs_progWords (s : State) (r l : Nat) (xs : List Word) : (s.setVregs r l xs).progWords = s.progWords := by
  induction xs generalizing s r with
  | nil => rfl
  | cons x rest ih => simp [State.setVregs, ih]
@[simp] theorem setVregs_laneTape (s : State) (r l : Nat) (xs : List Word) : (s.setVregs r l xs).laneTape = s.laneTape := by
  induction xs generalizing s r with
  | nil => rfl
  | cons x rest ih => simp [State.setVregs, ih]
@[simp] theorem setVregs_issued (s : State) (r l : Nat) (xs : List Word) : (s.setVregs r l xs).issued = s.issued := by
  induction xs generalizing s r with
  | nil => rfl
  | cons x rest ih => simp [State.setVregs, ih]
@[simp] theorem setVregs_mem (s : State) (r l : Nat) (xs : List Word) (sp : Space) :
    (s.setVregs r l xs).mem sp = s.mem sp := by
  cases sp <;> simp [State.mem]
@[simp] theorem setVregs_nil (s : State) (r l : Nat) : s.setVregs r l [] = s := rfl

/-! ## advance -/

@[simp] theorem advance_params (s : State) : s.advance.params = s.params := rfl
@[simp] theorem advance_m0 (s : State) : s.advance.m0 = s.m0 := rfl
@[simp] theorem advance_m0Written (s : State) : s.advance.m0Written = s.m0Written := rfl
@[simp] theorem advance_active (s : State) : s.advance.active = s.active := rfl
@[simp] theorem advance_vgpr (s : State) : s.advance.vgpr = s.vgpr := rfl
@[simp] theorem advance_vgprUnwritten (s : State) : s.advance.vgprUnwritten = s.vgprUnwritten := rfl
@[simp] theorem advance_lds (s : State) : s.advance.lds = s.lds := rfl
@[simp] theorem advance_gds (s : State) : s.advance.gds = s.gds := rfl
@[simp] theorem advance_imem (s : State) : s.advance.imem = s.imem := rfl
@[simp] theorem advance_progStart (s : State) : s.advance.progStart = s.progStart := rfl
@[simp] theorem advance_progWords (s : State) : s.advance.progWords = s.progWords := rfl
@[simp] theorem advance_laneTape (s : State) : s.advance.laneTape = s.laneTape := rfl
@[simp] theorem advance_issued (s : State) : s.advance.issued = s.issued := rfl
@[simp] theorem advance_mem (s : State) (sp : Space) : (s.advance).mem sp = s.mem sp := by
  cases sp <;> rfl
@[simp] theorem advance_vreg (s : State) (r l : Nat) : (s.advance).vreg r l = s.vreg r l := rfl
@[simp] theorem advance_holdsValue (s : State) (r l : Nat) : (s.advance).holdsValue r l = s.holdsValue r l := rfl

/-! ## spendChoice -/

@[simp] theorem spendChoice_params (s : State) : s.spendChoice.params = s.params := rfl
@[simp] theorem spendChoice_pc (s : State) : s.spendChoice.pc = s.pc := rfl
@[simp] theorem spendChoice_m0 (s : State) : s.spendChoice.m0 = s.m0 := rfl
@[simp] theorem spendChoice_m0Written (s : State) : s.spendChoice.m0Written = s.m0Written := rfl
@[simp] theorem spendChoice_active (s : State) : s.spendChoice.active = s.active := rfl
@[simp] theorem spendChoice_vgpr (s : State) : s.spendChoice.vgpr = s.vgpr := rfl
@[simp] theorem spendChoice_vgprUnwritten (s : State) : s.spendChoice.vgprUnwritten = s.vgprUnwritten := rfl
@[simp] theorem spendChoice_lds (s : State) : s.spendChoice.lds = s.lds := rfl
@[simp] theorem spendChoice_gds (s : State) : s.spendChoice.gds = s.gds := rfl
@[simp] theorem spendChoice_imem (s : State) : s.spendChoice.imem = s.imem := rfl
@[simp] theorem spendChoice_progStart (s : State) : s.spendChoice.progStart = s.progStart := rfl
@[simp] theorem spendChoice_progWords (s : State) : s.spendChoice.progWords = s.progWords := rfl
@[simp] theorem spendChoice_mem (s : State) (sp : Space) : (s.spendChoice).mem sp = s.mem sp := by
  cases sp <;> rfl
@[simp] theorem spendChoice_vreg (s : State) (r l : Nat) : (s.spendChoice).vreg r l = s.vreg r l := rfl
@[simp] theorem spendChoice_holdsValue (s : State) (r l : Nat) : (s.spendChoice).holdsValue r l = s.holdsValue r l := rfl
@[simp] theorem advance_pc (s : State) : s.advance.pc = s.pc + 8 := rfl
@[simp] theorem spendChoice_laneTape (s : State) : s.spendChoice.laneTape = s.laneTape.tail := rfl
@[simp] theorem spendChoice_issued (s : State) : s.spendChoice.issued = s.issued + 1 := rfl

end Sys2Proof.Machine
end

