-- ==== Sys2Proof/Laws/Lanes.lean ====
section
/-! SUPPORT. What the lane order, one lane's effect and a whole plan can do, said once. -/

namespace Sys2Proof.Machine

/-! ## The lane order -/

theorem insertAt_perm (i x : Nat) (xs : List Nat) : (insertAt i x xs).Perm (x :: xs) := by
  induction xs generalizing i with
  | nil => simp [insertAt]
  | cons y ys ih =>
    cases i with
    | zero => exact List.Perm.refl _
    | succ j => exact ((ih j).cons y).trans (List.Perm.swap x y ys)

/-- A chosen order is a permutation. -/
theorem permute_perm (c : Nat) (xs : List Nat) : (permute c xs).Perm xs := by
  induction xs generalizing c with
  | nil => exact List.Perm.refl _
  | cons x rest ih => exact (insertAt_perm _ _ _).trans ((ih _).cons x)

theorem insertAt_append (pre post : List Nat) (x : Nat) : insertAt pre.length x (pre ++ post) = pre ++ x :: post := by
  induction pre with
  | nil => cases post <;> rfl
  | cons y ys ih => simp [insertAt, ih]

/-- Every permutation is picked by some number (R59: every order is allowed). -/
theorem exists_permute {xs ys : List Nat} (h : ys.Perm xs) : ∃ c, permute c xs = ys := by
  induction xs generalizing ys with
  | nil => exact ⟨0, by simp [permute, h.eq_nil]⟩
  | cons x rest ih =>
    obtain ⟨pre, post, rfl⟩ := List.append_of_mem (h.mem_iff.2 (List.mem_cons_self ..))
    have hrest : (pre ++ post).Perm rest := (List.perm_middle.symm.trans h).cons_inv
    obtain ⟨c, hc⟩ := ih hrest
    have hlen : pre.length < rest.length + 1 := by
      have := hrest.length_eq
      simp only [List.length_append] at this
      omega
    refine ⟨pre.length + (rest.length + 1) * c, ?_⟩
    rw [permute, Nat.add_mul_mod_self_left, Nat.mod_eq_of_lt hlen, Nat.add_mul_div_left _ _ (by omega),
      Nat.div_eq_of_lt hlen, Nat.zero_add, hc, insertAt_append]

/-- Exactly the active lanes take effect, each once (R31, R59). -/
theorem laneOrder_perm (s : State) : s.laneOrder.Perm s.activeLanes := permute_perm _ _

@[simp] theorem mem_laneOrder (s : State) (l : Nat) : l ∈ s.laneOrder ↔ l ∈ s.activeLanes :=
  (laneOrder_perm s).mem_iff

theorem activeLanes_nodup (s : State) : s.activeLanes.Nodup := List.nodup_range.filter _

theorem laneOrder_nodup (s : State) : s.laneOrder.Nodup := (laneOrder_perm s).nodup_iff.2 (activeLanes_nodup s)

theorem mem_activeLanes (s : State) (l : Nat) :
    l ∈ s.activeLanes ↔ l < s.params.waveSize ∧ s.active.getD l false = true := by
  simp only [State.activeLanes, State.isActive, List.mem_filter, List.mem_range, Bool.and_eq_true, decide_eq_true_eq]
  tauto

/-! ## One lane and all lanes -/

section
variable (plan : LanePlan) (sp : Space)

/-- One lane's effect on the selected memory. -/
@[simp] theorem runLane_mem (s : State) (l : Nat) :
    (plan.runLane sp s l).mem sp = (plan.effect l (s.mem sp)).1 := by
  simp [LanePlan.runLane]

/-- One lane leaves the memory that is not selected alone (R45). -/
theorem runLane_mem_ne (s : State) (l : Nat) {sp2 : Space} (h : sp2 ≠ sp) :
    (plan.runLane sp s l).mem sp2 = s.mem sp2 := by
  simp [LanePlan.runLane, setMem_mem_ne _ _ h]

/-- Whatever every lane's effect keeps, the whole instruction keeps. -/
theorem runLanes_keeps {P : State → Prop} (s : State) (h0 : P s)
    (h : ∀ t l, l ∈ s.activeLanes → P t → P (plan.runLane sp t l)) : P (plan.runLanes sp s) := by
  have gen : ∀ (ls : List Nat) (t : State), (∀ l ∈ ls, l ∈ s.activeLanes) → P t →
      P (ls.foldl (fun t l => plan.runLane sp t l) t) := by
    intro ls
    induction ls with
    | nil => intro t _ ht; exact ht
    | cons l rest ih =>
      intro t hl ht
      exact ih _ (fun k hk => hl k (by simp [hk])) (h t l (hl l (by simp)) ht)
  exact gen _ s (fun l hl => (mem_laneOrder s l).1 hl) h0

/-- The selected memory after some lanes: their memory effects one after another. -/
theorem foldl_runLane_mem (ls : List Nat) (t : State) :
    (ls.foldl (fun t l => plan.runLane sp t l) t).mem sp = ls.foldl (fun m l => (plan.effect l m).1) (t.mem sp) := by
  induction ls generalizing t with
  | nil => rfl
  | cons k rest ih => simp only [List.foldl_cons, ih, runLane_mem]

/-- The selected memory after all lanes: the lanes' memory effects one after another (R59). -/
theorem runLanes_mem (s : State) :
    (plan.runLanes sp s).mem sp = s.laneOrder.foldl (fun m l => (plan.effect l m).1) (s.mem sp) :=
  foldl_runLane_mem plan sp _ s

/-- No lane touches the memory that is not selected (R45). -/
theorem runLanes_mem_ne (s : State) {sp2 : Space} (h : sp2 ≠ sp) :
    (plan.runLanes sp s).mem sp2 = s.mem sp2 :=
  runLanes_keeps plan sp (P := fun t => t.mem sp2 = s.mem sp2) s rfl
    fun _ _ _ ht => (runLane_mem_ne plan sp _ _ h).trans ht

/-- No plan writes what the launch fixed, `pc`, or the choices of order. -/
theorem runLanes_launch (s : State) :
    SameLaunch s (plan.runLanes sp s) ∧ (plan.runLanes sp s).pc = s.pc
      ∧ (plan.runLanes sp s).laneTape = s.laneTape ∧ (plan.runLanes sp s).issued = s.issued := by
  refine runLanes_keeps plan sp
    (P := fun t => SameLaunch s t ∧ t.pc = s.pc ∧ t.laneTape = s.laneTape ∧ t.issued = s.issued) s
    ⟨⟨rfl, rfl, rfl, rfl, rfl, rfl, rfl⟩, rfl, rfl, rfl⟩ ?_
  rintro t l - ⟨⟨h1, h2, h3, h4, h5, h6, h7⟩, h8, h9, h10⟩
  exact ⟨⟨by simpa [LanePlan.runLane] using h1, by simpa [LanePlan.runLane] using h2,
    by simpa [LanePlan.runLane] using h3, by simpa [LanePlan.runLane] using h4,
    by simpa [LanePlan.runLane] using h5, by simpa [LanePlan.runLane] using h6,
    by simpa [LanePlan.runLane] using h7⟩, by simpa [LanePlan.runLane] using h8,
    by simpa [LanePlan.runLane] using h9, by simpa [LanePlan.runLane] using h10⟩

/-- A completed plan moves `pc` by 8 and leaves what the launch fixed alone (R32, R35). -/
theorem commit_launch (s : State) :
    SameLaunch s (plan.commit sp s) ∧ (plan.commit sp s).pc = s.pc + 8 := by
  obtain ⟨⟨h1, h2, h3, h4, h5, h6, h7⟩, h8, -⟩ := runLanes_launch plan sp s
  exact ⟨⟨by simpa [LanePlan.commit] using h1, by simpa [LanePlan.commit] using h2,
    by simpa [LanePlan.commit] using h3, by simpa [LanePlan.commit] using h4,
    by simpa [LanePlan.commit] using h5, by simpa [LanePlan.commit] using h6,
    by simpa [LanePlan.commit] using h7⟩, by simp [LanePlan.commit, h8]⟩

/-! ## A whole plan -/

/-- Everything `runPlan` can do when it answers a next state. -/
theorem runPlan_next {m : Mnemonic} {s t : State} (h : runPlan m sp plan s = .next t) :
    plan.regsInFile s.params = true ∧
      ((s.activeLanes = [] ∧ t = s.advance) ∨
        (s.activeLanes ≠ [] ∧ s.m0Written = true ∧ plan.firstUnwritten s = none
          ∧ plan.firstOutOfRange sp s = none ∧ t = plan.commit sp s)) := by
  unfold runPlan at h
  split at h
  · simp at h
  · rename_i hr
    refine ⟨by simpa using hr, ?_⟩
    split at h
    · rename_i ha
      exact .inl ⟨ha, by simpa using h.symm⟩
    · rename_i ha
      split at h
      · simp at h
      · rename_i hm
        split at h
        · simp at h
        · rename_i hu
          split at h
          · simp at h
          · rename_i ho
            exact .inr ⟨ha, by simpa using hm, hu, ho, by simpa using h.symm⟩

/-- Everything `runPlan` can do when it does not. -/
theorem runPlan_stops (m : Mnemonic) (s : State) :
    (∃ t, runPlan m sp plan s = .next t)
      ∨ runPlan m sp plan s = .refused (.refused s.pc m .registerOutOfFile)
      ∨ (∃ r, runPlan m sp plan s = .fault (.unwrittenRegister r))
      ∨ (∃ r, plan.firstOutOfRange sp s = some r ∧ runPlan m sp plan s = .fault r) := by
  unfold runPlan
  split
  · simp
  · split
    · simp
    · split
      · simp
      · split
        · simp
        · split
          · rename_i r hr
            exact .inr (.inr (.inr ⟨r, hr, rfl⟩))
          · simp

/-- `runPlan` completes when every check passes. -/
theorem runPlan_completes (m : Mnemonic) (s : State) (hr : plan.regsInFile s.params = true)
    (ha : s.activeLanes ≠ []) (hm : s.m0Written = true) (hu : plan.firstUnwritten s = none)
    (ho : plan.firstOutOfRange sp s = none) : runPlan m sp plan s = .next (plan.commit sp s) := by
  simp [runPlan, hr, ha, hm, hu, ho]

/-- With no active lane only `pc` changes (R31). -/
theorem runPlan_noLane (m : Mnemonic) (s : State) (hr : plan.regsInFile s.params = true)
    (ha : s.activeLanes = []) : runPlan m sp plan s = .next s.advance := by
  simp [runPlan, hr, ha]

/-- No source element holds no value exactly when every one of every active lane holds one. -/
theorem firstUnwritten_none (s : State) :
    plan.firstUnwritten s = none ↔
      ∀ l ∈ s.activeLanes, ∀ r ∈ plan.sources, ∀ i < r.count, s.holdsValue (r.first + i) l = true := by
  simp only [LanePlan.firstUnwritten, LanePlan.laneUnwritten, List.findSome?_eq_none_iff, List.mem_flatMap,
    RegRange.regs, List.mem_range'_1]
  constructor
  · intro h l hl r hr i hi
    have := h l hl (r.first + i) ⟨r, hr, by omega, by omega⟩
    by_contra hc
    simp [hc] at this
  · rintro h l hl k ⟨r, hr, h1, h2⟩
    have := h l hl r hr (k - r.first) (by omega)
    rw [show r.first + (k - r.first) = k by omega] at this
    simp [this]

/-- No access is out of range exactly when out-of-range accesses do not end the run or every one of every active lane
is admitted. -/
theorem firstOutOfRange_none (s : State) :
    plan.firstOutOfRange sp s = none ↔
      (s.rangeFaults sp = true → ∀ l ∈ s.activeLanes, ∀ a ∈ plan.accesses l, s.admits sp a = true) := by
  unfold LanePlan.firstOutOfRange
  split
  · rename_i hf
    simp only [hf, forall_const, List.findSome?_eq_none_iff, LanePlan.laneOutOfRange]
    refine forall₂_congr fun l _ => forall₂_congr fun a _ => ?_
    cases s.admits sp a <;> simp
  · rename_i hf
    simp [hf]

end

end Sys2Proof.Machine
end

