-- ==== Sys2Proof/Laws/Memory.lean ====
section
/-! SUPPORT. The sparse stores, memory and the vector registers: read after write, writes leave every other place alone,
and every operation keeps the canonical form. -/

namespace Sys2Proof.Machine

variable {w : Nat}

/-! ## Sparse stores -/

theorem cellGet_cellErase (m : List (Nat × BitVec w)) (a b : Nat) :
    cellGet (cellErase m a) b = if b = a then 0 else cellGet m b := by
  induction m with
  | nil => simp [cellErase, cellGet]
  | cons c rest ih =>
    simp only [cellErase] at ih ⊢
    by_cases hc : c.1 = a
    · rw [List.filter_cons_of_neg (by simpa using hc), ih]
      by_cases hb : b = a
      · simp [hb]
      · have hcb : c.1 ≠ b := fun h => hb (h.symm.trans hc)
        simp [hb, cellGet, hcb]
    · rw [List.filter_cons_of_pos (by simpa using hc)]
      by_cases hcb : c.1 = b
      · have hb : b ≠ a := fun h => hc (hcb.trans h)
        simp [cellGet, hcb, hb]
      · simp only [cellGet, if_neg hcb]
        exact ih

theorem cellGet_cellInsert_ne (m : List (Nat × BitVec w)) {a b : Nat} (x : BitVec w) (h : b ≠ a) :
    cellGet (cellInsert m a x) b = cellGet m b := by
  induction m with
  | nil => simp [cellInsert, cellGet, Ne.symm h]
  | cons c rest ih =>
    unfold cellInsert
    split
    · simp [cellGet, Ne.symm h]
    · simp [cellGet, ih]

theorem cellGet_cellInsert_self (m : List (Nat × BitVec w)) (a : Nat) (x : BitVec w) (h : ∀ c ∈ m, c.1 ≠ a) :
    cellGet (cellInsert m a x) a = x := by
  induction m with
  | nil => simp [cellInsert, cellGet]
  | cons c rest ih =>
    unfold cellInsert
    split
    · simp [cellGet]
    · have hc := h c (by simp)
      simp only [cellGet, hc, if_false]
      exact ih (fun d hd => h d (by simp [hd]))

/-- Reading after writing: the key written holds the value, every other key what it held. -/
theorem cellGet_cellSet (m : List (Nat × BitVec w)) (a b : Nat) (x : BitVec w) :
    cellGet (cellSet m a x) b = if b = a then x else cellGet m b := by
  unfold cellSet
  split
  · rename_i hx
    rw [cellGet_cellErase, hx]
  · by_cases hb : b = a
    · subst hb
      rw [if_pos rfl]
      refine cellGet_cellInsert_self _ _ _ fun c hc => ?_
      simpa using (List.mem_filter.1 hc).2
    · rw [if_neg hb, cellGet_cellInsert_ne _ _ hb, cellGet_cellErase, if_neg hb]

@[simp] theorem cellGet_cellSet_self (m : List (Nat × BitVec w)) (a : Nat) (x : BitVec w) :
    cellGet (cellSet m a x) a = x := by
  simp [cellGet_cellSet]

theorem cellGet_cellSet_ne (m : List (Nat × BitVec w)) {a b : Nat} (x : BitVec w) (h : b ≠ a) :
    cellGet (cellSet m a x) b = cellGet m b := by
  simp [cellGet_cellSet, h]

theorem mem_cellInsert (m : List (Nat × BitVec w)) (a : Nat) (x : BitVec w) (c : Nat × BitVec w)
    (h : c ∈ cellInsert m a x) : c = (a, x) ∨ c ∈ m := by
  induction m with
  | nil => simpa [cellInsert] using h
  | cons d rest ih =>
    unfold cellInsert at h
    split at h
    · simpa using h
    · rcases List.mem_cons.1 h with rfl | h
      · simp
      · rcases ih h with rfl | h
        · simp
        · simp [h]

theorem cellErase_wf {m : List (Nat × BitVec w)} (h : CellsWf m) (a : Nat) : CellsWf (cellErase m a) :=
  ⟨h.1.filter _, fun c hc => h.2 c (List.mem_filter.1 hc).1⟩

theorem cellInsert_wf {m : List (Nat × BitVec w)} (h : CellsWf m) {a : Nat} {x : BitVec w} (hx : x ≠ 0)
    (ha : ∀ c ∈ m, c.1 ≠ a) : CellsWf (cellInsert m a x) := by
  refine ⟨?_, fun c hc => ?_⟩
  · induction m with
    | nil => simp [cellInsert]
    | cons d rest ih =>
      have hp := List.pairwise_cons.1 h.1
      unfold cellInsert
      split
      · rename_i hlt
        refine List.pairwise_cons.2 ⟨fun c hc => ?_, h.1⟩
        rcases List.mem_cons.1 hc with rfl | hc
        · exact hlt
        · exact lt_trans hlt (hp.1 c hc)
      · rename_i hlt
        refine List.pairwise_cons.2 ⟨fun c hc => ?_,
          ih ⟨hp.2, fun c hc => h.2 c (by simp [hc])⟩ (fun c hc => ha c (by simp [hc]))⟩
        rcases mem_cellInsert _ _ _ _ hc with rfl | hc
        · exact lt_of_le_of_ne (not_lt.1 hlt) (ha d (by simp))
        · exact hp.1 c hc
  · rcases mem_cellInsert _ _ _ _ hc with rfl | hc
    · exact hx
    · exact h.2 c hc

/-- Writing a key keeps the canonical form. -/
theorem cellSet_wf {m : List (Nat × BitVec w)} (h : CellsWf m) (a : Nat) (x : BitVec w) : CellsWf (cellSet m a x) := by
  unfold cellSet
  split
  · exact cellErase_wf h a
  · rename_i hx
    refine cellInsert_wf (cellErase_wf h a) hx fun c hc => ?_
    simpa using (List.mem_filter.1 hc).2

/-- Writing a key below a bound keeps every key below it. -/
theorem cellSet_keysBelow {m : List (Nat × BitVec w)} {n : Nat} (h : KeysBelow m n) {a : Nat} (ha : a < n)
    (x : BitVec w) : KeysBelow (cellSet m a x) n := by
  intro c hc
  unfold cellSet at hc
  split at hc
  · exact h c (List.mem_filter.1 hc).1
  · rcases mem_cellInsert _ _ _ _ hc with rfl | hc
    · exact ha
    · exact h c (List.mem_filter.1 hc).1

/-! ## Memory -/

/-- What a store leaves alone: every byte outside the `n` bytes stored (R10). -/
theorem cellGet_memWrite_outside (m : Memory) (a n x b : Nat) (h : b < a ∨ a + n ≤ b) :
    cellGet (memWrite m a n x) b = cellGet m b := by
  induction n generalizing m a x with
  | zero => rfl
  | succ k ih =>
    rw [memWrite, ih _ _ _ (by omega), cellGet_cellSet_ne _ _ (by omega)]

/-- What a store writes: byte `a + i` becomes `x[8i+7:8i]` (R54). -/
theorem cellGet_memWrite_inside (m : Memory) (a n x i : Nat) (h : i < n) :
    cellGet (memWrite m a n x) (a + i) = BitVec.ofNat 8 (x / 256 ^ i) := by
  induction n generalizing m a x i with
  | zero => omega
  | succ k ih =>
    rw [memWrite]
    cases i with
    | zero => rw [cellGet_memWrite_outside _ _ _ _ _ (by omega)]; simp
    | succ j =>
      have hk : j < k := by omega
      have := ih (cellSet m a (BitVec.ofNat 8 x)) (a + 1) (x / 256) j hk
      rw [show a + (j + 1) = a + 1 + j by omega, this, Nat.div_div_eq_div_mul, pow_succ, Nat.mul_comm]

/-- A read depends only on the bytes read. -/
theorem memRead_congr {m m2 : Memory} {a n : Nat} (h : ∀ i < n, cellGet m (a + i) = cellGet m2 (a + i)) :
    memRead m a n = memRead m2 a n := by
  induction n generalizing a with
  | zero => rfl
  | succ k ih =>
    rw [memRead, memRead, show cellGet m a = cellGet m2 a from by simpa using h 0 (by omega),
      ih (fun i hi => by simpa [Nat.add_assoc, Nat.add_comm 1] using h (i + 1) (by omega))]

/-- Reading what was stored gives the value's low `8n` bits. -/
theorem memRead_memWrite_self (m : Memory) (a n x : Nat) : memRead (memWrite m a n x) a n = x % 256 ^ n := by
  induction n generalizing m a x with
  | zero => simp [memRead, Nat.mod_one]
  | succ k ih =>
    rw [memRead, memWrite, cellGet_memWrite_outside _ _ _ _ _ (by omega), cellGet_cellSet_self, ih,
      BitVec.toNat_ofNat, pow_succ' 256 k, Nat.mod_mul]

/-- Reading bytes a store did not touch gives what they held. -/
theorem memRead_memWrite_disjoint (m : Memory) {a n b k : Nat} (x : Nat) (h : b + k ≤ a ∨ a + n ≤ b) :
    memRead (memWrite m a n x) b k = memRead m b k :=
  memRead_congr fun i hi => cellGet_memWrite_outside _ _ _ _ _ (by omega)

/-- A read of `n` bytes is below `256^n`. -/
theorem memRead_lt (m : Memory) (a n : Nat) : memRead m a n < 256 ^ n := by
  induction n generalizing a with
  | zero => simp [memRead]
  | succ k ih =>
    have h1 := (cellGet m a).isLt
    have h2 := ih (a + 1)
    rw [memRead, pow_succ]
    omega

/-- A store keeps the canonical form. -/
theorem memWrite_wf {m : Memory} (h : m.wf) (a n x : Nat) : (memWrite m a n x).wf := by
  induction n generalizing m a x with
  | zero => exact h
  | succ k ih => exact ih (cellSet_wf h _ _) _ _

/-- A store whose bytes lie below a bound keeps every key below it. -/
theorem memWrite_keysBelow {m : Memory} {b : Nat} (h : KeysBelow m b) {a n : Nat} (ha : a + n ≤ b) (x : Nat) :
    KeysBelow (memWrite m a n x) b := by
  induction n generalizing m a x with
  | zero => exact h
  | succ k ih => exact ih (cellSet_keysBelow h (by omega) _) (by omega) _

/-- Placing a program keeps instruction memory in canonical form. -/
theorem placeProgramWord_imem_wf {s : State} (h : s.imem.wf) (x : Nat) : (s.placeProgramWord x).imem.wf :=
  memWrite_wf h _ _ _

/-- Canonical memories are equal exactly when every byte is: equal memories are equal data. -/
theorem cells_ext {m m2 : List (Nat × BitVec w)} (h : CellsWf m) (h2 : CellsWf m2)
    (heq : ∀ a, cellGet m a = cellGet m2 a) : m = m2 := by
  have get_lt : ∀ (k : List (Nat × BitVec w)) (a : Nat), (∀ c ∈ k, a < c.1) → cellGet k a = 0 := by
    intro k a hk
    induction k with
    | nil => rfl
    | cons c rest ih =>
      have := hk c (by simp)
      simp only [cellGet, show c.1 ≠ a by omega, if_false]
      exact ih fun d hd => hk d (by simp [hd])
  induction m generalizing m2 with
  | nil =>
    cases m2 with
    | nil => rfl
    | cons d rest =>
      have := heq d.1
      simp only [cellGet, if_true] at this
      exact absurd this.symm (h2.2 d (by simp))
  | cons c rest ih =>
    have hc := List.pairwise_cons.1 h.1
    cases m2 with
    | nil =>
      have := heq c.1
      simp only [cellGet, if_true] at this
      exact absurd this (h.2 c (by simp))
    | cons d rest2 =>
      have hd := List.pairwise_cons.1 h2.1
      have key : c.1 = d.1 := by
        rcases lt_trichotomy c.1 d.1 with hlt | he | hgt
        · have := heq c.1
          rw [get_lt (d :: rest2) c.1 (fun e he => by
            rcases List.mem_cons.1 he with rfl | he
            · exact hlt
            · exact lt_trans hlt (hd.1 e he))] at this
          simp only [cellGet, if_true] at this
          exact absurd this (h.2 c (by simp))
        · exact he
        · have := heq d.1
          rw [get_lt (c :: rest) d.1 (fun e he => by
            rcases List.mem_cons.1 he with rfl | he
            · exact hgt
            · exact lt_trans hgt (hc.1 e he))] at this
          simp only [cellGet, if_true] at this
          exact absurd this.symm (h2.2 d (by simp))
      have val : c.2 = d.2 := by
        have := heq c.1
        simpa [cellGet, key] using this
      have hcd : c = d := Prod.ext key val
      subst hcd
      congr 1
      refine ih ⟨hc.2, fun e he => h.2 e (by simp [he])⟩ ⟨hd.2, fun e he => h2.2 e (by simp [he])⟩ fun a => ?_
      by_cases ha : c.1 = a
      · rw [get_lt rest a (fun e he => ha ▸ hc.1 e he), get_lt rest2 a (fun e he => ha ▸ hd.1 e he)]
      · have := heq a
        simpa [cellGet, ha] using this

/-! ## Vector registers -/

/-- Register keys below 256 registers a lane are distinct. -/
theorem vgprKey_inj {l r l2 r2 : Nat} (hr : r < 256) (hr2 : r2 < 256) :
    vgprKey l r = vgprKey l2 r2 ↔ l = l2 ∧ r = r2 := by
  unfold vgprKey
  omega

/-- A written element holds the value written, and holds a value. -/
@[simp] theorem setVreg_vreg_self (s : State) (r l : Nat) (x : Word) : (s.setVreg r l x).vreg r l = x := by
  simp [State.setVreg, State.vreg]

@[simp] theorem setVreg_holdsValue_self (s : State) (r l : Nat) (x : Word) :
    (s.setVreg r l x).holdsValue r l = true := by
  simp [State.setVreg, State.holdsValue]

/-- Writing one element leaves every other element alone. -/
theorem setVreg_vreg_other (s : State) {r l r2 l2 : Nat} (x : Word) (h : vgprKey l2 r2 ≠ vgprKey l r) :
    (s.setVreg r l x).vreg r2 l2 = s.vreg r2 l2 :=
  cellGet_cellSet_ne _ _ h

theorem setVreg_holdsValue_other (s : State) {r l r2 l2 : Nat} (x : Word) (h : vgprKey l2 r2 ≠ vgprKey l r) :
    (s.setVreg r l x).holdsValue r2 l2 = s.holdsValue r2 l2 := by
  simp [State.setVreg, State.holdsValue, h]

/-- Writing a run of registers leaves every element outside it alone. -/
theorem setVregs_other (s : State) (r l : Nat) (xs : List Word) {r2 l2 : Nat}
    (h : ∀ i < xs.length, vgprKey l2 r2 ≠ vgprKey l (r + i)) :
    (s.setVregs r l xs).vreg r2 l2 = s.vreg r2 l2 ∧ (s.setVregs r l xs).holdsValue r2 l2 = s.holdsValue r2 l2 := by
  induction xs generalizing s r with
  | nil => exact ⟨rfl, rfl⟩
  | cons x rest ih =>
    have h0 := h 0 (by simp)
    have := ih (s.setVreg r l x) (r + 1) fun i hi => by
      have := h (i + 1) (by simpa using hi)
      rwa [show r + (i + 1) = r + 1 + i by omega] at this
    exact ⟨this.1.trans (setVreg_vreg_other _ _ h0), this.2.trans (setVreg_holdsValue_other _ _ h0)⟩

/-- Writing a run of registers of one lane: register `r + i` holds the `i`-th dword. -/
theorem setVregs_inside (s : State) (r l : Nat) (xs : List Word) (i : Nat) (hi : i < xs.length) :
    (s.setVregs r l xs).vreg (r + i) l = xs[i] ∧ (s.setVregs r l xs).holdsValue (r + i) l = true := by
  induction xs generalizing s r i with
  | nil => simp at hi
  | cons x rest ih =>
    cases i with
    | zero =>
      have := setVregs_other (s.setVreg r l x) (r + 1) l rest (r2 := r) (l2 := l)
        (fun i _ => by unfold vgprKey; omega)
      simpa [State.setVregs] using this
    | succ j =>
      have := ih (s.setVreg r l x) (r + 1) j (by simpa using hi)
      simpa [State.setVregs, show r + (j + 1) = r + 1 + j by omega] using this

@[simp] theorem toWords_length (k x : Nat) : (toWords k x).length = k := by
  induction k generalizing x with
  | zero => rfl
  | succ j ih => simp [toWords, ih]

end Sys2Proof.Machine
end

