-- ==== Sys2Proof/Laws/PerInstr.lean ====
section
/-! SUPPORT. Facts about every instruction as syntax, one lemma per constructor. -/

namespace Sys2Proof.Laws

/-- An instruction is its mnemonic with its fields: no field of a decoded term is dropped (R92). -/
def Rebuild.Statement (i : Instr) : Prop := i.mnemonic.instr i.fields = i

theorem Rebuild.dsAddU32 (f : DsFields) : Rebuild.Statement (.dsAddU32 f) := rfl
theorem Rebuild.dsSubU32 (f : DsFields) : Rebuild.Statement (.dsSubU32 f) := rfl
theorem Rebuild.dsRsubU32 (f : DsFields) : Rebuild.Statement (.dsRsubU32 f) := rfl
theorem Rebuild.dsIncU32 (f : DsFields) : Rebuild.Statement (.dsIncU32 f) := rfl
theorem Rebuild.dsDecU32 (f : DsFields) : Rebuild.Statement (.dsDecU32 f) := rfl
theorem Rebuild.dsMinI32 (f : DsFields) : Rebuild.Statement (.dsMinI32 f) := rfl
theorem Rebuild.dsMaxI32 (f : DsFields) : Rebuild.Statement (.dsMaxI32 f) := rfl
theorem Rebuild.dsMinU32 (f : DsFields) : Rebuild.Statement (.dsMinU32 f) := rfl
theorem Rebuild.dsMaxU32 (f : DsFields) : Rebuild.Statement (.dsMaxU32 f) := rfl
theorem Rebuild.dsAndB32 (f : DsFields) : Rebuild.Statement (.dsAndB32 f) := rfl
theorem Rebuild.dsOrB32 (f : DsFields) : Rebuild.Statement (.dsOrB32 f) := rfl
theorem Rebuild.dsXorB32 (f : DsFields) : Rebuild.Statement (.dsXorB32 f) := rfl
theorem Rebuild.dsMskorB32 (f : DsFields) : Rebuild.Statement (.dsMskorB32 f) := rfl
theorem Rebuild.dsWriteB32 (f : DsFields) : Rebuild.Statement (.dsWriteB32 f) := rfl
theorem Rebuild.dsWrite2B32 (f : DsFields) : Rebuild.Statement (.dsWrite2B32 f) := rfl
theorem Rebuild.dsWrite2st64B32 (f : DsFields) : Rebuild.Statement (.dsWrite2st64B32 f) := rfl
theorem Rebuild.dsCmpstB32 (f : DsFields) : Rebuild.Statement (.dsCmpstB32 f) := rfl
theorem Rebuild.dsCmpstF32 (f : DsFields) : Rebuild.Statement (.dsCmpstF32 f) := rfl
theorem Rebuild.dsMinF32 (f : DsFields) : Rebuild.Statement (.dsMinF32 f) := rfl
theorem Rebuild.dsMaxF32 (f : DsFields) : Rebuild.Statement (.dsMaxF32 f) := rfl
theorem Rebuild.dsNop (f : DsFields) : Rebuild.Statement (.dsNop f) := rfl
theorem Rebuild.dsAddF32 (f : DsFields) : Rebuild.Statement (.dsAddF32 f) := rfl
theorem Rebuild.dsGwsSemaReleaseAll (f : DsFields) : Rebuild.Statement (.dsGwsSemaReleaseAll f) := rfl
theorem Rebuild.dsGwsInit (f : DsFields) : Rebuild.Statement (.dsGwsInit f) := rfl
theorem Rebuild.dsGwsSemaV (f : DsFields) : Rebuild.Statement (.dsGwsSemaV f) := rfl
theorem Rebuild.dsGwsSemaBr (f : DsFields) : Rebuild.Statement (.dsGwsSemaBr f) := rfl
theorem Rebuild.dsGwsSemaP (f : DsFields) : Rebuild.Statement (.dsGwsSemaP f) := rfl
theorem Rebuild.dsGwsBarrier (f : DsFields) : Rebuild.Statement (.dsGwsBarrier f) := rfl
theorem Rebuild.dsWriteB8 (f : DsFields) : Rebuild.Statement (.dsWriteB8 f) := rfl
theorem Rebuild.dsWriteB16 (f : DsFields) : Rebuild.Statement (.dsWriteB16 f) := rfl
theorem Rebuild.dsAddRtnU32 (f : DsFields) : Rebuild.Statement (.dsAddRtnU32 f) := rfl
theorem Rebuild.dsSubRtnU32 (f : DsFields) : Rebuild.Statement (.dsSubRtnU32 f) := rfl
theorem Rebuild.dsRsubRtnU32 (f : DsFields) : Rebuild.Statement (.dsRsubRtnU32 f) := rfl
theorem Rebuild.dsIncRtnU32 (f : DsFields) : Rebuild.Statement (.dsIncRtnU32 f) := rfl
theorem Rebuild.dsDecRtnU32 (f : DsFields) : Rebuild.Statement (.dsDecRtnU32 f) := rfl
theorem Rebuild.dsMinRtnI32 (f : DsFields) : Rebuild.Statement (.dsMinRtnI32 f) := rfl
theorem Rebuild.dsMaxRtnI32 (f : DsFields) : Rebuild.Statement (.dsMaxRtnI32 f) := rfl
theorem Rebuild.dsMinRtnU32 (f : DsFields) : Rebuild.Statement (.dsMinRtnU32 f) := rfl
theorem Rebuild.dsMaxRtnU32 (f : DsFields) : Rebuild.Statement (.dsMaxRtnU32 f) := rfl
theorem Rebuild.dsAndRtnB32 (f : DsFields) : Rebuild.Statement (.dsAndRtnB32 f) := rfl
theorem Rebuild.dsOrRtnB32 (f : DsFields) : Rebuild.Statement (.dsOrRtnB32 f) := rfl
theorem Rebuild.dsXorRtnB32 (f : DsFields) : Rebuild.Statement (.dsXorRtnB32 f) := rfl
theorem Rebuild.dsMskorRtnB32 (f : DsFields) : Rebuild.Statement (.dsMskorRtnB32 f) := rfl
theorem Rebuild.dsWrxchgRtnB32 (f : DsFields) : Rebuild.Statement (.dsWrxchgRtnB32 f) := rfl
theorem Rebuild.dsWrxchg2RtnB32 (f : DsFields) : Rebuild.Statement (.dsWrxchg2RtnB32 f) := rfl
theorem Rebuild.dsWrxchg2st64RtnB32 (f : DsFields) : Rebuild.Statement (.dsWrxchg2st64RtnB32 f) := rfl
theorem Rebuild.dsCmpstRtnB32 (f : DsFields) : Rebuild.Statement (.dsCmpstRtnB32 f) := rfl
theorem Rebuild.dsCmpstRtnF32 (f : DsFields) : Rebuild.Statement (.dsCmpstRtnF32 f) := rfl
theorem Rebuild.dsMinRtnF32 (f : DsFields) : Rebuild.Statement (.dsMinRtnF32 f) := rfl
theorem Rebuild.dsMaxRtnF32 (f : DsFields) : Rebuild.Statement (.dsMaxRtnF32 f) := rfl
theorem Rebuild.dsWrapRtnB32 (f : DsFields) : Rebuild.Statement (.dsWrapRtnB32 f) := rfl
theorem Rebuild.dsSwizzleB32 (f : DsFields) : Rebuild.Statement (.dsSwizzleB32 f) := rfl
theorem Rebuild.dsAddRtnF32 (f : DsFields) : Rebuild.Statement (.dsAddRtnF32 f) := rfl
theorem Rebuild.dsReadB32 (f : DsFields) : Rebuild.Statement (.dsReadB32 f) := rfl
theorem Rebuild.dsRead2B32 (f : DsFields) : Rebuild.Statement (.dsRead2B32 f) := rfl
theorem Rebuild.dsRead2st64B32 (f : DsFields) : Rebuild.Statement (.dsRead2st64B32 f) := rfl
theorem Rebuild.dsReadI8 (f : DsFields) : Rebuild.Statement (.dsReadI8 f) := rfl
theorem Rebuild.dsReadU8 (f : DsFields) : Rebuild.Statement (.dsReadU8 f) := rfl
theorem Rebuild.dsReadI16 (f : DsFields) : Rebuild.Statement (.dsReadI16 f) := rfl
theorem Rebuild.dsReadU16 (f : DsFields) : Rebuild.Statement (.dsReadU16 f) := rfl
theorem Rebuild.dsConsume (f : DsFields) : Rebuild.Statement (.dsConsume f) := rfl
theorem Rebuild.dsAppend (f : DsFields) : Rebuild.Statement (.dsAppend f) := rfl
theorem Rebuild.dsPermuteB32 (f : DsFields) : Rebuild.Statement (.dsPermuteB32 f) := rfl
theorem Rebuild.dsOrderedCount (f : DsFields) : Rebuild.Statement (.dsOrderedCount f) := rfl
theorem Rebuild.dsBpermuteB32 (f : DsFields) : Rebuild.Statement (.dsBpermuteB32 f) := rfl
theorem Rebuild.dsAddU64 (f : DsFields) : Rebuild.Statement (.dsAddU64 f) := rfl
theorem Rebuild.dsSubU64 (f : DsFields) : Rebuild.Statement (.dsSubU64 f) := rfl
theorem Rebuild.dsRsubU64 (f : DsFields) : Rebuild.Statement (.dsRsubU64 f) := rfl
theorem Rebuild.dsIncU64 (f : DsFields) : Rebuild.Statement (.dsIncU64 f) := rfl
theorem Rebuild.dsDecU64 (f : DsFields) : Rebuild.Statement (.dsDecU64 f) := rfl
theorem Rebuild.dsMinI64 (f : DsFields) : Rebuild.Statement (.dsMinI64 f) := rfl
theorem Rebuild.dsMaxI64 (f : DsFields) : Rebuild.Statement (.dsMaxI64 f) := rfl
theorem Rebuild.dsMinU64 (f : DsFields) : Rebuild.Statement (.dsMinU64 f) := rfl
theorem Rebuild.dsMaxU64 (f : DsFields) : Rebuild.Statement (.dsMaxU64 f) := rfl
theorem Rebuild.dsAndB64 (f : DsFields) : Rebuild.Statement (.dsAndB64 f) := rfl
theorem Rebuild.dsOrB64 (f : DsFields) : Rebuild.Statement (.dsOrB64 f) := rfl
theorem Rebuild.dsXorB64 (f : DsFields) : Rebuild.Statement (.dsXorB64 f) := rfl
theorem Rebuild.dsMskorB64 (f : DsFields) : Rebuild.Statement (.dsMskorB64 f) := rfl
theorem Rebuild.dsWriteB64 (f : DsFields) : Rebuild.Statement (.dsWriteB64 f) := rfl
theorem Rebuild.dsWrite2B64 (f : DsFields) : Rebuild.Statement (.dsWrite2B64 f) := rfl
theorem Rebuild.dsWrite2st64B64 (f : DsFields) : Rebuild.Statement (.dsWrite2st64B64 f) := rfl
theorem Rebuild.dsCmpstB64 (f : DsFields) : Rebuild.Statement (.dsCmpstB64 f) := rfl
theorem Rebuild.dsCmpstF64 (f : DsFields) : Rebuild.Statement (.dsCmpstF64 f) := rfl
theorem Rebuild.dsMinF64 (f : DsFields) : Rebuild.Statement (.dsMinF64 f) := rfl
theorem Rebuild.dsMaxF64 (f : DsFields) : Rebuild.Statement (.dsMaxF64 f) := rfl
theorem Rebuild.dsAddRtnU64 (f : DsFields) : Rebuild.Statement (.dsAddRtnU64 f) := rfl
theorem Rebuild.dsSubRtnU64 (f : DsFields) : Rebuild.Statement (.dsSubRtnU64 f) := rfl
theorem Rebuild.dsRsubRtnU64 (f : DsFields) : Rebuild.Statement (.dsRsubRtnU64 f) := rfl
theorem Rebuild.dsIncRtnU64 (f : DsFields) : Rebuild.Statement (.dsIncRtnU64 f) := rfl
theorem Rebuild.dsDecRtnU64 (f : DsFields) : Rebuild.Statement (.dsDecRtnU64 f) := rfl
theorem Rebuild.dsMinRtnI64 (f : DsFields) : Rebuild.Statement (.dsMinRtnI64 f) := rfl
theorem Rebuild.dsMaxRtnI64 (f : DsFields) : Rebuild.Statement (.dsMaxRtnI64 f) := rfl
theorem Rebuild.dsMinRtnU64 (f : DsFields) : Rebuild.Statement (.dsMinRtnU64 f) := rfl
theorem Rebuild.dsMaxRtnU64 (f : DsFields) : Rebuild.Statement (.dsMaxRtnU64 f) := rfl
theorem Rebuild.dsAndRtnB64 (f : DsFields) : Rebuild.Statement (.dsAndRtnB64 f) := rfl
theorem Rebuild.dsOrRtnB64 (f : DsFields) : Rebuild.Statement (.dsOrRtnB64 f) := rfl
theorem Rebuild.dsXorRtnB64 (f : DsFields) : Rebuild.Statement (.dsXorRtnB64 f) := rfl
theorem Rebuild.dsMskorRtnB64 (f : DsFields) : Rebuild.Statement (.dsMskorRtnB64 f) := rfl
theorem Rebuild.dsWrxchgRtnB64 (f : DsFields) : Rebuild.Statement (.dsWrxchgRtnB64 f) := rfl
theorem Rebuild.dsWrxchg2RtnB64 (f : DsFields) : Rebuild.Statement (.dsWrxchg2RtnB64 f) := rfl
theorem Rebuild.dsWrxchg2st64RtnB64 (f : DsFields) : Rebuild.Statement (.dsWrxchg2st64RtnB64 f) := rfl
theorem Rebuild.dsCmpstRtnB64 (f : DsFields) : Rebuild.Statement (.dsCmpstRtnB64 f) := rfl
theorem Rebuild.dsCmpstRtnF64 (f : DsFields) : Rebuild.Statement (.dsCmpstRtnF64 f) := rfl
theorem Rebuild.dsMinRtnF64 (f : DsFields) : Rebuild.Statement (.dsMinRtnF64 f) := rfl
theorem Rebuild.dsMaxRtnF64 (f : DsFields) : Rebuild.Statement (.dsMaxRtnF64 f) := rfl
theorem Rebuild.dsReadB64 (f : DsFields) : Rebuild.Statement (.dsReadB64 f) := rfl
theorem Rebuild.dsRead2B64 (f : DsFields) : Rebuild.Statement (.dsRead2B64 f) := rfl
theorem Rebuild.dsRead2st64B64 (f : DsFields) : Rebuild.Statement (.dsRead2st64B64 f) := rfl
theorem Rebuild.dsCondxchg32RtnB64 (f : DsFields) : Rebuild.Statement (.dsCondxchg32RtnB64 f) := rfl
theorem Rebuild.dsAddSrc2U32 (f : DsFields) : Rebuild.Statement (.dsAddSrc2U32 f) := rfl
theorem Rebuild.dsSubSrc2U32 (f : DsFields) : Rebuild.Statement (.dsSubSrc2U32 f) := rfl
theorem Rebuild.dsRsubSrc2U32 (f : DsFields) : Rebuild.Statement (.dsRsubSrc2U32 f) := rfl
theorem Rebuild.dsIncSrc2U32 (f : DsFields) : Rebuild.Statement (.dsIncSrc2U32 f) := rfl
theorem Rebuild.dsDecSrc2U32 (f : DsFields) : Rebuild.Statement (.dsDecSrc2U32 f) := rfl
theorem Rebuild.dsMinSrc2I32 (f : DsFields) : Rebuild.Statement (.dsMinSrc2I32 f) := rfl
theorem Rebuild.dsMaxSrc2I32 (f : DsFields) : Rebuild.Statement (.dsMaxSrc2I32 f) := rfl
theorem Rebuild.dsMinSrc2U32 (f : DsFields) : Rebuild.Statement (.dsMinSrc2U32 f) := rfl
theorem Rebuild.dsMaxSrc2U32 (f : DsFields) : Rebuild.Statement (.dsMaxSrc2U32 f) := rfl
theorem Rebuild.dsAndSrc2B32 (f : DsFields) : Rebuild.Statement (.dsAndSrc2B32 f) := rfl
theorem Rebuild.dsOrSrc2B32 (f : DsFields) : Rebuild.Statement (.dsOrSrc2B32 f) := rfl
theorem Rebuild.dsXorSrc2B32 (f : DsFields) : Rebuild.Statement (.dsXorSrc2B32 f) := rfl
theorem Rebuild.dsWriteSrc2B32 (f : DsFields) : Rebuild.Statement (.dsWriteSrc2B32 f) := rfl
theorem Rebuild.dsMinSrc2F32 (f : DsFields) : Rebuild.Statement (.dsMinSrc2F32 f) := rfl
theorem Rebuild.dsMaxSrc2F32 (f : DsFields) : Rebuild.Statement (.dsMaxSrc2F32 f) := rfl
theorem Rebuild.dsAddSrc2F32 (f : DsFields) : Rebuild.Statement (.dsAddSrc2F32 f) := rfl
theorem Rebuild.dsAddSrc2U64 (f : DsFields) : Rebuild.Statement (.dsAddSrc2U64 f) := rfl
theorem Rebuild.dsSubSrc2U64 (f : DsFields) : Rebuild.Statement (.dsSubSrc2U64 f) := rfl
theorem Rebuild.dsRsubSrc2U64 (f : DsFields) : Rebuild.Statement (.dsRsubSrc2U64 f) := rfl
theorem Rebuild.dsIncSrc2U64 (f : DsFields) : Rebuild.Statement (.dsIncSrc2U64 f) := rfl
theorem Rebuild.dsDecSrc2U64 (f : DsFields) : Rebuild.Statement (.dsDecSrc2U64 f) := rfl
theorem Rebuild.dsMinSrc2I64 (f : DsFields) : Rebuild.Statement (.dsMinSrc2I64 f) := rfl
theorem Rebuild.dsMaxSrc2I64 (f : DsFields) : Rebuild.Statement (.dsMaxSrc2I64 f) := rfl
theorem Rebuild.dsMinSrc2U64 (f : DsFields) : Rebuild.Statement (.dsMinSrc2U64 f) := rfl
theorem Rebuild.dsMaxSrc2U64 (f : DsFields) : Rebuild.Statement (.dsMaxSrc2U64 f) := rfl
theorem Rebuild.dsAndSrc2B64 (f : DsFields) : Rebuild.Statement (.dsAndSrc2B64 f) := rfl
theorem Rebuild.dsOrSrc2B64 (f : DsFields) : Rebuild.Statement (.dsOrSrc2B64 f) := rfl
theorem Rebuild.dsXorSrc2B64 (f : DsFields) : Rebuild.Statement (.dsXorSrc2B64 f) := rfl
theorem Rebuild.dsWriteSrc2B64 (f : DsFields) : Rebuild.Statement (.dsWriteSrc2B64 f) := rfl
theorem Rebuild.dsMinSrc2F64 (f : DsFields) : Rebuild.Statement (.dsMinSrc2F64 f) := rfl
theorem Rebuild.dsMaxSrc2F64 (f : DsFields) : Rebuild.Statement (.dsMaxSrc2F64 f) := rfl
theorem Rebuild.dsWriteB96 (f : DsFields) : Rebuild.Statement (.dsWriteB96 f) := rfl
theorem Rebuild.dsWriteB128 (f : DsFields) : Rebuild.Statement (.dsWriteB128 f) := rfl
theorem Rebuild.dsCondxchg32RtnB128 (f : DsFields) : Rebuild.Statement (.dsCondxchg32RtnB128 f) := rfl
theorem Rebuild.dsReadB96 (f : DsFields) : Rebuild.Statement (.dsReadB96 f) := rfl
theorem Rebuild.dsReadB128 (f : DsFields) : Rebuild.Statement (.dsReadB128 f) := rfl

end Sys2Proof.Laws
end

