-- ==== Sys2Proof/Laws/Results.lean ====
section
/-! SUPPORT. What a whole instruction leaves in memory and in the registers, from what one lane's effect does. -/

namespace Sys2Proof.Machine

/-- An access reaches a byte. -/
def Access.Reaches (a : Access) (b : Nat) : Prop := a.ea ≤ b ∧ b < a.ea + a.width

/-- A lane's effect is local to its accesses: it writes no byte outside them, what it does depends on those bytes
alone, and it returns as many dwords as the destination has registers. -/
structure LanePlan.Local (plan : LanePlan) : Prop where
  outside : ∀ l m b, (∀ a ∈ plan.accesses l, ¬ a.Reaches b) → cellGet (plan.effect l m).1 b = cellGet m b
  returns : ∀ l m m2, (∀ a ∈ plan.accesses l, ∀ b, a.Reaches b → cellGet m b = cellGet m2 b) →
    (plan.effect l m).2 = (plan.effect l m2).2
  inside : ∀ l m m2, (∀ a ∈ plan.accesses l, ∀ b, a.Reaches b → cellGet m b = cellGet m2 b) →
    ∀ a ∈ plan.accesses l, ∀ b, a.Reaches b → cellGet (plan.effect l m).1 b = cellGet (plan.effect l m2).1 b
  count : ∀ l m, (plan.effect l m).2.length = plan.dest.count

section
variable {plan : LanePlan} {sp : Space}

/-- One lane leaves every register element but its own destination alone. -/
theorem runLane_otherRegs (hp : plan.Local) {p : Params} (hd : plan.dest.inFile p = true) (s : State) (k r l : Nat)
    (hr : r < 256) (h : ¬ (l = k ∧ r ∈ plan.dest.regs)) :
    (plan.runLane sp s k).vreg r l = s.vreg r l ∧ (plan.runLane sp s k).holdsValue r l = s.holdsValue r l := by
  have hout := setVregs_other (s.setMem sp (plan.effect k (s.mem sp)).1) plan.dest.first k
    (plan.effect k (s.mem sp)).2 (r2 := r) (l2 := l) (fun i hi => by
      rw [hp.count] at hi
      simp only [RegRange.inFile, Bool.or_eq_true, beq_iff_eq, decide_eq_true_eq] at hd
      have hlt : plan.dest.first + i < 256 := by omega
      intro hk
      obtain ⟨h1, h2⟩ := (vgprKey_inj hr hlt).1 hk
      exact h ⟨h1, by simp only [RegRange.regs, List.mem_range'_1]; omega⟩)
  simpa [LanePlan.runLane] using hout

/-- All lanes leave every register element but the active lanes' destinations alone (R35). -/
theorem runLanes_otherRegs (hp : plan.Local) {p : Params} (hd : plan.dest.inFile p = true) (s : State) (r l : Nat)
    (hr : r < 256) (h : ¬ (l ∈ s.activeLanes ∧ r ∈ plan.dest.regs)) :
    (plan.runLanes sp s).vreg r l = s.vreg r l ∧ (plan.runLanes sp s).holdsValue r l = s.holdsValue r l := by
  refine runLanes_keeps plan sp (P := fun t => t.vreg r l = s.vreg r l ∧ t.holdsValue r l = s.holdsValue r l) s
    ⟨rfl, rfl⟩ fun t k hk ht => ?_
  have := runLane_otherRegs (sp := sp) hp hd t k r l hr (fun hc => h ⟨hc.1 ▸ hk, hc.2⟩)
  exact ⟨this.1.trans ht.1, this.2.trans ht.2⟩

/-- All lanes leave every byte outside their accesses alone (R35). -/
theorem runLanes_otherBytes (hp : plan.Local) (s : State) (b : Nat)
    (h : ∀ l ∈ s.activeLanes, ∀ a ∈ plan.accesses l, ¬ a.Reaches b) :
    (plan.runLanes sp s).byteAt sp b = s.byteAt sp b := by
  refine runLanes_keeps plan sp (P := fun t => t.byteAt sp b = s.byteAt sp b) s rfl fun t k hk ht => ?_
  simp only [State.byteAt, runLane_mem] at ht ⊢
  exact (hp.outside k _ b (h k hk)).trans ht

/-- The lanes of a list other than `l` keep what `l` reaches, and `l`'s registers. -/
theorem foldl_keeps_lane (hp : plan.Local) {p : Params} (hd : plan.dest.inFile p = true) (l : Nat)
    (ls : List Nat) (hl : l ∉ ls)
    (hm : ∀ k ∈ ls, ∀ m, ∀ a ∈ plan.accesses l, ∀ b, a.Reaches b → cellGet (plan.effect k m).1 b = cellGet m b)
    (t : State) :
    (∀ a ∈ plan.accesses l, ∀ b, a.Reaches b →
        cellGet ((ls.foldl (fun t l => plan.runLane sp t l) t).mem sp) b = cellGet (t.mem sp) b)
      ∧ ∀ r < 256, (ls.foldl (fun t l => plan.runLane sp t l) t).vreg r l = t.vreg r l
        ∧ (ls.foldl (fun t l => plan.runLane sp t l) t).holdsValue r l = t.holdsValue r l := by
  induction ls generalizing t with
  | nil => exact ⟨fun _ _ _ _ => rfl, fun _ _ => ⟨rfl, rfl⟩⟩
  | cons k rest ih =>
    obtain ⟨h1, h2⟩ := ih (fun h => hl (by simp [h])) (fun j hj => hm j (by simp [hj])) (plan.runLane sp t k)
    refine ⟨fun a ha b hb => ?_, fun r hr => ?_⟩
    · rw [List.foldl_cons, h1 a ha b hb, runLane_mem]
      exact hm k (by simp) _ a ha b hb
    · have hreg := runLane_otherRegs (sp := sp) hp hd t k r l hr (fun hc => hl (by simp [hc.1]))
      exact ⟨(h2 r hr).1.trans hreg.1, (h2 r hr).2.trans hreg.2⟩

/-- The result of a lane that no other active lane interferes with: the bytes it reaches and its destination registers
are what its effect makes of the memory before the instruction, in whatever order the lanes take effect. -/
theorem runLanes_lane (hp : plan.Local) {p : Params} (hd : plan.dest.inFile p = true) (s : State) (l : Nat)
    (hl : l ∈ s.activeLanes)
    (hm : ∀ k ∈ s.activeLanes, k ≠ l → ∀ m, ∀ a ∈ plan.accesses l, ∀ b, a.Reaches b →
      cellGet (plan.effect k m).1 b = cellGet m b) :
    (∀ a ∈ plan.accesses l, ∀ b, a.Reaches b →
        (plan.runLanes sp s).byteAt sp b = cellGet (plan.effect l (s.mem sp)).1 b)
      ∧ ∀ i (hi : i < (plan.effect l (s.mem sp)).2.length),
        (plan.runLanes sp s).vreg (plan.dest.first + i) l = (plan.effect l (s.mem sp)).2[i]
          ∧ (plan.runLanes sp s).holdsValue (plan.dest.first + i) l = true := by
  obtain ⟨pre, post, hsplit⟩ := List.append_of_mem ((mem_laneOrder s l).2 hl)
  have hnd := laneOrder_nodup s
  rw [hsplit] at hnd
  have hpre : l ∉ pre := fun h => by
    have := List.nodup_append.1 hnd
    exact this.2.2 l h l (by simp) rfl
  have hpost : l ∉ post := (List.nodup_cons.1 (List.nodup_append.1 hnd).2.1).1
  have hact : ∀ k, k ∈ pre ∨ k ∈ post → k ∈ s.activeLanes := fun k hk =>
    (mem_laneOrder s k).1 (by rw [hsplit]; rcases hk with h | h <;> simp [h])
  obtain ⟨a1, -⟩ := foldl_keeps_lane (sp := sp) hp hd l pre hpre
    (fun k hk => hm k (hact k (.inl hk)) (fun h => hpre (h ▸ hk))) s
  obtain ⟨c1, c2⟩ := foldl_keeps_lane (sp := sp) hp hd l post hpost
    (fun k hk => hm k (hact k (.inr hk)) (fun h => hpost (h ▸ hk)))
    (plan.runLane sp (pre.foldl (fun t l => plan.runLane sp t l) s) l)
  have hrun : plan.runLanes sp s = post.foldl (fun t l => plan.runLane sp t l)
      (plan.runLane sp (pre.foldl (fun t l => plan.runLane sp t l) s) l) := by
    simp [LanePlan.runLanes, hsplit]
  rw [hrun]
  have hret := hp.returns l _ _ a1
  refine ⟨fun a ha b hb => ?_, fun i hi => ?_⟩
  · rw [State.byteAt, c1 a ha b hb, runLane_mem]
    exact hp.inside l _ _ a1 a ha b hb
  · have hi2 : i < (plan.effect l ((pre.foldl (fun t l => plan.runLane sp t l) s).mem sp)).2.length := by
      rw [hret]; exact hi
    have hlt : plan.dest.first + i < 256 := by
      have hc := hi
      rw [hp.count] at hc
      simp only [RegRange.inFile, Bool.or_eq_true, beq_iff_eq, decide_eq_true_eq] at hd
      omega
    have hin := setVregs_inside
      ((pre.foldl (fun t l => plan.runLane sp t l) s).setMem sp
        (plan.effect l ((pre.foldl (fun t l => plan.runLane sp t l) s).mem sp)).1) plan.dest.first l _ i hi2
    obtain ⟨c3, c4⟩ := c2 _ hlt
    refine ⟨c3.trans ?_, c4.trans hin.2⟩
    rw [LanePlan.runLane, hin.1]
    simp only [hret]

/-- Lanes other than `l` leave the registers of `l` alone. -/
theorem foldl_otherRegs (hp : plan.Local) {p : Params} (hd : plan.dest.inFile p = true) {l r : Nat} (hr : r < 256)
    (ls : List Nat) (hl : l ∉ ls) (t : State) :
    (ls.foldl (fun t l => plan.runLane sp t l) t).vreg r l = t.vreg r l
      ∧ (ls.foldl (fun t l => plan.runLane sp t l) t).holdsValue r l = t.holdsValue r l := by
  induction ls generalizing t with
  | nil => exact ⟨rfl, rfl⟩
  | cons k rest ih =>
    have h := ih (fun hm => hl (by simp [hm])) (plan.runLane sp t k)
    have hreg := runLane_otherRegs (sp := sp) hp hd t k r l hr (fun hc => hl (by simp [hc.1]))
    exact ⟨h.1.trans hreg.1, h.2.trans hreg.2⟩

/-- What a lane returns, whether or not other lanes interfere with it: its destination registers hold what its effect
returns on the memory that the lanes before it leave (R59). -/
theorem runLanes_returned (hp : plan.Local) {p : Params} (hd : plan.dest.inFile p = true) (s : State)
    {before after : List Nat} {l : Nat} (hsplit : s.laneOrder = before ++ l :: after) {i : Nat} {x : Word}
    (hx : (plan.effect l (before.foldl (fun m l => (plan.effect l m).1) (s.mem sp))).2[i]? = some x) :
    (plan.runLanes sp s).vreg (plan.dest.first + i) l = x
      ∧ (plan.runLanes sp s).holdsValue (plan.dest.first + i) l = true := by
  have hnd := laneOrder_nodup s
  rw [hsplit] at hnd
  have hafter : l ∉ after := (List.nodup_cons.1 (List.nodup_append.1 hnd).2.1).1
  obtain ⟨hi, rfl⟩ := List.getElem?_eq_some_iff.1 hx
  have hlt : plan.dest.first + i < 256 := by
    have hc := hi
    rw [hp.count] at hc
    simp only [RegRange.inFile, Bool.or_eq_true, beq_iff_eq, decide_eq_true_eq] at hd
    omega
  have hrun : plan.runLanes sp s = after.foldl (fun t l => plan.runLane sp t l)
      (plan.runLane sp (before.foldl (fun t l => plan.runLane sp t l) s) l) := by
    simp [LanePlan.runLanes, hsplit]
  obtain ⟨c1, c2⟩ := foldl_otherRegs (sp := sp) hp hd hlt after hafter
    (plan.runLane sp (before.foldl (fun t l => plan.runLane sp t l) s) l)
  rw [hrun]
  simp only [← foldl_runLane_mem] at hi ⊢
  have hin := setVregs_inside
    ((before.foldl (fun t l => plan.runLane sp t l) s).setMem sp
      (plan.effect l ((before.foldl (fun t l => plan.runLane sp t l) s).mem sp)).1) plan.dest.first l _ i hi
  exact ⟨c1.trans hin.1, c2.trans hin.2⟩

end

/-! ## The read and write halves of an access -/

/-- What it is for an access to be admitted (R51, R52). -/
theorem admits_iff (s : State) (sp : Space) (a : Access) :
    s.admits sp a = true ↔ a.sum < 2 ^ 32 ∧ a.ea + a.width ≤ s.limit sp := by
  simp only [State.admits, Bool.and_eq_true, decide_eq_true_eq]

@[simp] theorem access_width (n : Nat) (f : DsFields) (s : State) (l : Nat) : (access n f s l).width = n := rfl

@[simp] theorem access0_width (c n : Nat) (f : DsFields) (s : State) (l : Nat) : (access0 c n f s l).width = n := rfl

@[simp] theorem access1_width (c n : Nat) (f : DsFields) (s : State) (l : Nat) : (access1 c n f s l).width = n := rfl

/-- The write half writes no byte outside the access. -/
theorem storeAt_outside (s : State) (sp : Space) (a : Access) (x : Nat) (m : Memory) (b : Nat) (h : ¬ a.Reaches b) :
    cellGet (s.storeAt sp a x m) b = cellGet m b := by
  unfold State.storeAt
  split
  · exact cellGet_memWrite_outside _ _ _ _ _ (by unfold Access.Reaches at h; omega)
  · rfl

/-- What the write half leaves in a byte depends on that byte alone. -/
theorem storeAt_congr (s : State) (sp : Space) (a : Access) (x : Nat) {m m2 : Memory} {b : Nat}
    (h : cellGet m b = cellGet m2 b) : cellGet (s.storeAt sp a x m) b = cellGet (s.storeAt sp a x m2) b := by
  unfold State.storeAt
  split
  · by_cases hb : a.Reaches b
    · obtain ⟨h1, h2⟩ := hb
      obtain ⟨i, rfl⟩ := Nat.exists_eq_add_of_le h1
      rw [cellGet_memWrite_inside _ _ _ _ _ (by omega), cellGet_memWrite_inside _ _ _ _ _ (by omega)]
    · unfold Access.Reaches at hb
      rw [cellGet_memWrite_outside _ _ _ _ _ (by omega), cellGet_memWrite_outside _ _ _ _ _ (by omega), h]
  · exact h

/-- The read half depends on the bytes of the access alone. -/
theorem loadAt_congr (s : State) (sp : Space) (a : Access) {m m2 : Memory}
    (h : ∀ b, a.Reaches b → cellGet m b = cellGet m2 b) : s.loadAt sp a m = s.loadAt sp a m2 := by
  unfold State.loadAt
  split
  · exact memRead_congr fun i hi => h _ ⟨by omega, by omega⟩
  · rfl

/-! ## Every form is local -/

theorem rmwPlan_local (w : Nat) (two rtn : Bool) (op : BitVec w → BitVec w → BitVec w → BitVec w) (f : DsFields)
    (s : State) : (rmwPlan w two rtn op f s).Local where
  outside l m b h := storeAt_outside _ _ _ _ _ _ (h _ (by simp [rmwPlan]))
  returns l m m2 h := by
    have := loadAt_congr s (space f) (access (w / 8) f s l) (h _ (by simp [rmwPlan]))
    simp [rmwPlan, this]
  inside l m m2 h a ha b hb := by
    have := loadAt_congr s (space f) (access (w / 8) f s l) (h _ (by simp [rmwPlan]))
    simp only [rmwPlan, this]
    exact storeAt_congr _ _ _ _ (h a ha b hb)
  count l m := by cases rtn <;> simp [rmwPlan, dstRange, noDst]

theorem storePlan_local (k n : Nat) (f : DsFields) (s : State) : (storePlan k n f s).Local where
  outside l m b h := storeAt_outside _ _ _ _ _ _ (h _ (by simp [storePlan]))
  returns l m m2 h := rfl
  inside l m m2 h a ha b hb := storeAt_congr _ _ _ _ (h a ha b hb)
  count l m := rfl

theorem store2Plan_local (w scale : Nat) (f : DsFields) (s : State) : (store2Plan w scale f s).Local where
  outside l m b h :=
    (storeAt_outside _ _ _ _ _ _ (h _ (by simp [store2Plan]))).trans
      (storeAt_outside _ _ _ _ _ _ (h _ (by simp [store2Plan])))
  returns l m m2 h := rfl
  inside l m m2 h a ha b hb := storeAt_congr _ _ _ _ (storeAt_congr _ _ _ _ (h a ha b hb))
  count l m := rfl

theorem exchange2Plan_local (w scale : Nat) (f : DsFields) (s : State) : (exchange2Plan w scale f s).Local where
  outside l m b h :=
    (storeAt_outside _ _ _ _ _ _ (h _ (by simp [exchange2Plan]))).trans
      (storeAt_outside _ _ _ _ _ _ (h _ (by simp [exchange2Plan])))
  returns l m m2 h := by
    have h0 := loadAt_congr s (space f) (access0 scale (w / 8) f s l) (h _ (by simp [exchange2Plan]))
    have h1 := loadAt_congr s (space f) (access1 scale (w / 8) f s l)
      (m := s.storeAt (space f) (access0 scale (w / 8) f s l) (data0 w f s l).toNat m)
      (m2 := s.storeAt (space f) (access0 scale (w / 8) f s l) (data0 w f s l).toNat m2)
      (fun b hb => storeAt_congr _ _ _ _ (h _ (by simp [exchange2Plan]) b hb))
    simp [exchange2Plan, h0, h1]
  inside l m m2 h a ha b hb := storeAt_congr _ _ _ _ (storeAt_congr _ _ _ _ (h a ha b hb))
  count l m := by simp [exchange2Plan, dstRange]; omega

theorem loadPlan_local (k n : Nat) (ext : Nat → Nat) (f : DsFields) (s : State) : (loadPlan k n ext f s).Local where
  outside l m b h := rfl
  returns l m m2 h := by
    have := loadAt_congr s (space f) (access n f s l) (h _ (by simp [loadPlan]))
    simp [loadPlan, this]
  inside l m m2 h a ha b hb := h a ha b hb
  count l m := by simp [loadPlan, dstRange]

theorem load2Plan_local (w scale : Nat) (f : DsFields) (s : State) : (load2Plan w scale f s).Local where
  outside l m b h := rfl
  returns l m m2 h := by
    have h0 := loadAt_congr s (space f) (access0 scale (w / 8) f s l) (h _ (by simp [load2Plan]))
    have h1 := loadAt_congr s (space f) (access1 scale (w / 8) f s l) (h _ (by simp [load2Plan]))
    simp [load2Plan, h0, h1]
  inside l m m2 h a ha b hb := h a ha b hb
  count l m := by simp [load2Plan, dstRange]; omega

end Sys2Proof.Machine
end

