-- ==== Sys2Proof/Tests/Slice0.lean ====
section
/-! SUPPORT. Tests: words and vectors that the spec writes out (spec/30_encoding.md, the "Encoding example" lines of files 40 to
47, spec/95_test_vectors.md), and a witness for the hypotheses of every statement. -/

namespace Sys2Proof.Tests

open Sys2Proof.Machine Sys2Proof.Claims

/-! ## Helpers -/

/-- A four-lane state at a program of one word: the active lanes, register elements (register, lane, value), dwords of
LDS and of GDS, and the instruction word. -/
def lanes (active : List Bool) (regs : List (Nat × Nat × Nat)) (lds gds : List (Nat × Nat)) (w : Nat) : State :=
  let s := { State.reset with
    params := { Params.reset with arch := .gcn11, waveSize := 4 }
    active := active
    lds := lds.foldl (fun (m : Memory) c => memWrite m c.1 4 c.2) []
    gds := gds.foldl (fun (m : Memory) c => memWrite m c.1 4 c.2) []
    laneTape := [0] }
  (regs.foldl (fun (t : State) r => t.setVreg r.1 r.2.1 (BitVec.ofNat 32 r.2.2)) s).withFetchWord 64 w

/-- Lane 0 alone: registers (register, value) and dwords of one space. -/
def single (w : Nat) (sp : Space) (regs mem : List (Nat × Nat)) : State :=
  let r := regs.map (fun p => (p.1, 0, p.2))
  match sp with
  | .lds => lanes [true] r mem [] w
  | .gds => lanes [true] r [] mem w

/-- Whether an outcome is a next state, this one. -/
def nextIs (o : Result) (t : State) : Bool :=
  match o with
  | .next u => decide (u = t)
  | .fault _ => false
  | .refused _ => false

/-- Whether an outcome is this fault. -/
def faultIs (o : Result) (r : Fault) : Bool :=
  match o with
  | .next _ => false
  | .fault q => decide (q = r)
  | .refused _ => false

/-- Whether an outcome is this refusal. -/
def refusedIs (o : Result) (r : Refusal) : Bool :=
  match o with
  | .next _ => false
  | .fault _ => false
  | .refused q => decide (q = r)

/-- Whether the step of the word `w` completes in exactly the state in which the dwords `memAfter` and the registers
`regsAfter` have been written, `pc` has moved by 8 and one lane order has been used: everything else is unchanged. -/
def runs (w : Nat) (sp : Space) (regs mem memAfter regsAfter : List (Nat × Nat)) : Bool :=
  let s := single w sp regs mem
  let t := memAfter.foldl (fun (t : State) c => t.setMem sp (memWrite (t.mem sp) c.1 4 c.2)) s
  let t := regsAfter.foldl (fun (t : State) r => t.setVreg r.1 0 (BitVec.ofNat 32 r.2)) t
  nextIs (step s) { t with pc := 8, laneTape := [], issued := 1 }

/-- The dwords at some LDS addresses after a step that completes. -/
def dwordsAfter (s : State) (addrs : List Nat) : Option (List Nat) :=
  match step s with
  | .next t => some (addrs.map (fun a => memRead t.lds a 4))
  | .fault _ => none
  | .refused _ => none

/-- Whether words decode to the instructions beside them. -/
def decodesAll (l : List (Arch × InstrWord × Instr)) : Bool :=
  l.all (fun e => decide (decode .sourceTable e.1 e.2.1 = .ds e.2.2))

/-! ## WellFormed refuses what is ill-formed -/

/-- Check 1: `DS_ADD_U32` does not use `VDATA1`. -/
theorem test_unused_field_refused : (Instr.dsAddU32 ⟨0, false, 1, 2, 3, 0⟩).unusedFieldsZero = false := by decide

/-- Check 1: `DS_READ_B32` does not use `VDATA0`. -/
theorem test_unused_data_refused : (Instr.dsReadB32 ⟨0, false, 1, 2, 0, 4⟩).unusedFieldsZero = false := by decide

/-- Check 1: `DS_NOP` uses no field, `OFFSET` and `GDS` included. -/
theorem test_unused_offset_refused : (Instr.dsNop ⟨1, false, 0, 0, 0, 0⟩).unusedFieldsZero = false := by decide

/-- Check 2: `DS_ADD_F32` is on GCN 1.2 alone, `DS_NOP` not on GCN 1.0 (R82). -/
theorem test_absent_mnemonic_refused :
    Mnemonic.dsAddF32.presentOn .gcn11 = false ∧ Mnemonic.dsNop.presentOn .gcn10 = false := by decide

/-- A term both checks pass, with every field at its largest value. -/
theorem test_well_formed : WellFormed .gcn10 (.dsMskorB32 ⟨65535, true, 255, 255, 255, 0⟩) := by
  unfold WellFormed; decide


/-! ## Decoding: a word for every constructor, as the rule of the instruction writes it out (files 40 to 47, "Encoding example") -/

/-- spec/40_ds_atomic_32.md. -/
theorem test_decode_atomics32 : decodesAll [
    (.gcn10, 0x00000201D8000010, .dsAddU32 ⟨0x10, false, 1, 2, 0, 0⟩),
    (.gcn10, 0x00000201D8040010, .dsSubU32 ⟨0x10, false, 1, 2, 0, 0⟩),
    (.gcn10, 0x00000201D8080010, .dsRsubU32 ⟨0x10, false, 1, 2, 0, 0⟩),
    (.gcn10, 0x00000201D80C0010, .dsIncU32 ⟨0x10, false, 1, 2, 0, 0⟩),
    (.gcn10, 0x00000201D8100010, .dsDecU32 ⟨0x10, false, 1, 2, 0, 0⟩),
    (.gcn10, 0x00000201D8140010, .dsMinI32 ⟨0x10, false, 1, 2, 0, 0⟩),
    (.gcn10, 0x00000201D8180010, .dsMaxI32 ⟨0x10, false, 1, 2, 0, 0⟩),
    (.gcn10, 0x00000201D81C0010, .dsMinU32 ⟨0x10, false, 1, 2, 0, 0⟩),
    (.gcn10, 0x00000201D8200010, .dsMaxU32 ⟨0x10, false, 1, 2, 0, 0⟩),
    (.gcn10, 0x00000201D8240010, .dsAndB32 ⟨0x10, false, 1, 2, 0, 0⟩),
    (.gcn10, 0x00000201D8280010, .dsOrB32 ⟨0x10, false, 1, 2, 0, 0⟩),
    (.gcn10, 0x00000201D82C0010, .dsXorB32 ⟨0x10, false, 1, 2, 0, 0⟩),
    (.gcn10, 0x00040201D8300010, .dsMskorB32 ⟨0x10, false, 1, 2, 4, 0⟩),
    (.gcn10, 0x00040201D8400010, .dsCmpstB32 ⟨0x10, false, 1, 2, 4, 0⟩),
    (.gcn10, 0x00040201D8440010, .dsCmpstF32 ⟨0x10, false, 1, 2, 4, 0⟩),
    (.gcn10, 0x00000201D8480010, .dsMinF32 ⟨0x10, false, 1, 2, 0, 0⟩),
    (.gcn10, 0x00000201D84C0010, .dsMaxF32 ⟨0x10, false, 1, 2, 0, 0⟩),
    (.gcn12, 0x00000201D8540010, .dsAddF32 ⟨0x10, false, 1, 2, 0, 0⟩)] = true := by decide

/-- spec/41_ds_write.md. -/
theorem test_decode_stores : decodesAll [
    (.gcn10, 0x00000201D8340010, .dsWriteB32 ⟨0x10, false, 1, 2, 0, 0⟩),
    (.gcn10, 0x00040201D8380301, .dsWrite2B32 ⟨0x301, false, 1, 2, 4, 0⟩),
    (.gcn10, 0x00040201D83C0301, .dsWrite2st64B32 ⟨0x301, false, 1, 2, 4, 0⟩),
    (.gcn10, 0x00000201D8780010, .dsWriteB8 ⟨0x10, false, 1, 2, 0, 0⟩),
    (.gcn10, 0x00000201D87C0010, .dsWriteB16 ⟨0x10, false, 1, 2, 0, 0⟩),
    (.gcn10, 0x00000201D9340010, .dsWriteB64 ⟨0x10, false, 1, 2, 0, 0⟩),
    (.gcn10, 0x00040201D9380301, .dsWrite2B64 ⟨0x301, false, 1, 2, 4, 0⟩),
    (.gcn10, 0x00040201D93C0301, .dsWrite2st64B64 ⟨0x301, false, 1, 2, 4, 0⟩),
    (.gcn11, 0x00000201DB780010, .dsWriteB96 ⟨0x10, false, 1, 2, 0, 0⟩),
    (.gcn11, 0x00000201DB7C0010, .dsWriteB128 ⟨0x10, false, 1, 2, 0, 0⟩)] = true := by decide

/-- spec/42_ds_atomic_rtn_32.md. -/
theorem test_decode_returning32 : decodesAll [
    (.gcn10, 0x08000201D8800010, .dsAddRtnU32 ⟨0x10, false, 1, 2, 0, 8⟩),
    (.gcn10, 0x08000201D8840010, .dsSubRtnU32 ⟨0x10, false, 1, 2, 0, 8⟩),
    (.gcn10, 0x08000201D8880010, .dsRsubRtnU32 ⟨0x10, false, 1, 2, 0, 8⟩),
    (.gcn10, 0x08000201D88C0010, .dsIncRtnU32 ⟨0x10, false, 1, 2, 0, 8⟩),
    (.gcn10, 0x08000201D8900010, .dsDecRtnU32 ⟨0x10, false, 1, 2, 0, 8⟩),
    (.gcn10, 0x08000201D8940010, .dsMinRtnI32 ⟨0x10, false, 1, 2, 0, 8⟩),
    (.gcn10, 0x08000201D8980010, .dsMaxRtnI32 ⟨0x10, false, 1, 2, 0, 8⟩),
    (.gcn10, 0x08000201D89C0010, .dsMinRtnU32 ⟨0x10, false, 1, 2, 0, 8⟩),
    (.gcn10, 0x08000201D8A00010, .dsMaxRtnU32 ⟨0x10, false, 1, 2, 0, 8⟩),
    (.gcn10, 0x08000201D8A40010, .dsAndRtnB32 ⟨0x10, false, 1, 2, 0, 8⟩),
    (.gcn10, 0x08000201D8A80010, .dsOrRtnB32 ⟨0x10, false, 1, 2, 0, 8⟩),
    (.gcn10, 0x08000201D8AC0010, .dsXorRtnB32 ⟨0x10, false, 1, 2, 0, 8⟩),
    (.gcn10, 0x08040201D8B00010, .dsMskorRtnB32 ⟨0x10, false, 1, 2, 4, 8⟩),
    (.gcn10, 0x08000201D8B40010, .dsWrxchgRtnB32 ⟨0x10, false, 1, 2, 0, 8⟩),
    (.gcn10, 0x08040201D8B80301, .dsWrxchg2RtnB32 ⟨0x301, false, 1, 2, 4, 8⟩),
    (.gcn10, 0x08040201D8BC0301, .dsWrxchg2st64RtnB32 ⟨0x301, false, 1, 2, 4, 8⟩),
    (.gcn10, 0x08040201D8C00010, .dsCmpstRtnB32 ⟨0x10, false, 1, 2, 4, 8⟩),
    (.gcn10, 0x08040201D8C40010, .dsCmpstRtnF32 ⟨0x10, false, 1, 2, 4, 8⟩),
    (.gcn10, 0x08000201D8C80010, .dsMinRtnF32 ⟨0x10, false, 1, 2, 0, 8⟩),
    (.gcn10, 0x08000201D8CC0010, .dsMaxRtnF32 ⟨0x10, false, 1, 2, 0, 8⟩),
    (.gcn11, 0x08040201D8D00010, .dsWrapRtnB32 ⟨0x10, false, 1, 2, 4, 8⟩),
    (.gcn12, 0x08000201D8D40010, .dsAddRtnF32 ⟨0x10, false, 1, 2, 0, 8⟩)] = true := by decide

/-- spec/43_ds_read.md. -/
theorem test_decode_loads : decodesAll [
    (.gcn10, 0x08000001D8D80010, .dsReadB32 ⟨0x10, false, 1, 0, 0, 8⟩),
    (.gcn10, 0x08000001D8DC0301, .dsRead2B32 ⟨0x301, false, 1, 0, 0, 8⟩),
    (.gcn10, 0x08000001D8E00301, .dsRead2st64B32 ⟨0x301, false, 1, 0, 0, 8⟩),
    (.gcn10, 0x08000001D8E40010, .dsReadI8 ⟨0x10, false, 1, 0, 0, 8⟩),
    (.gcn10, 0x08000001D8E80010, .dsReadU8 ⟨0x10, false, 1, 0, 0, 8⟩),
    (.gcn10, 0x08000001D8EC0010, .dsReadI16 ⟨0x10, false, 1, 0, 0, 8⟩),
    (.gcn10, 0x08000001D8F00010, .dsReadU16 ⟨0x10, false, 1, 0, 0, 8⟩),
    (.gcn10, 0x08000001D9D80010, .dsReadB64 ⟨0x10, false, 1, 0, 0, 8⟩),
    (.gcn10, 0x08000001D9DC0301, .dsRead2B64 ⟨0x301, false, 1, 0, 0, 8⟩),
    (.gcn10, 0x08000001D9E00301, .dsRead2st64B64 ⟨0x301, false, 1, 0, 0, 8⟩),
    (.gcn11, 0x08000001DBF80010, .dsReadB96 ⟨0x10, false, 1, 0, 0, 8⟩),
    (.gcn11, 0x08000001DBFC0010, .dsReadB128 ⟨0x10, false, 1, 0, 0, 8⟩)] = true := by decide

/-- spec/44_ds_atomic_64.md. -/
theorem test_decode_atomics64 : decodesAll [
    (.gcn10, 0x00000201D9000010, .dsAddU64 ⟨0x10, false, 1, 2, 0, 0⟩),
    (.gcn10, 0x00000201D9040010, .dsSubU64 ⟨0x10, false, 1, 2, 0, 0⟩),
    (.gcn10, 0x00000201D9080010, .dsRsubU64 ⟨0x10, false, 1, 2, 0, 0⟩),
    (.gcn10, 0x00000201D90C0010, .dsIncU64 ⟨0x10, false, 1, 2, 0, 0⟩),
    (.gcn10, 0x00000201D9100010, .dsDecU64 ⟨0x10, false, 1, 2, 0, 0⟩),
    (.gcn10, 0x00000201D9140010, .dsMinI64 ⟨0x10, false, 1, 2, 0, 0⟩),
    (.gcn10, 0x00000201D9180010, .dsMaxI64 ⟨0x10, false, 1, 2, 0, 0⟩),
    (.gcn10, 0x00000201D91C0010, .dsMinU64 ⟨0x10, false, 1, 2, 0, 0⟩),
    (.gcn10, 0x00000201D9200010, .dsMaxU64 ⟨0x10, false, 1, 2, 0, 0⟩),
    (.gcn10, 0x00000201D9240010, .dsAndB64 ⟨0x10, false, 1, 2, 0, 0⟩),
    (.gcn10, 0x00000201D9280010, .dsOrB64 ⟨0x10, false, 1, 2, 0, 0⟩),
    (.gcn10, 0x00000201D92C0010, .dsXorB64 ⟨0x10, false, 1, 2, 0, 0⟩),
    (.gcn10, 0x00040201D9300010, .dsMskorB64 ⟨0x10, false, 1, 2, 4, 0⟩),
    (.gcn10, 0x00040201D9400010, .dsCmpstB64 ⟨0x10, false, 1, 2, 4, 0⟩),
    (.gcn10, 0x00040201D9440010, .dsCmpstF64 ⟨0x10, false, 1, 2, 4, 0⟩),
    (.gcn10, 0x00000201D9480010, .dsMinF64 ⟨0x10, false, 1, 2, 0, 0⟩),
    (.gcn10, 0x00000201D94C0010, .dsMaxF64 ⟨0x10, false, 1, 2, 0, 0⟩)] = true := by decide

/-- spec/45_ds_atomic_rtn_64.md. -/
theorem test_decode_returning64 : decodesAll [
    (.gcn10, 0x08000201D9800010, .dsAddRtnU64 ⟨0x10, false, 1, 2, 0, 8⟩),
    (.gcn10, 0x08000201D9840010, .dsSubRtnU64 ⟨0x10, false, 1, 2, 0, 8⟩),
    (.gcn10, 0x08000201D9880010, .dsRsubRtnU64 ⟨0x10, false, 1, 2, 0, 8⟩),
    (.gcn10, 0x08000201D98C0010, .dsIncRtnU64 ⟨0x10, false, 1, 2, 0, 8⟩),
    (.gcn10, 0x08000201D9900010, .dsDecRtnU64 ⟨0x10, false, 1, 2, 0, 8⟩),
    (.gcn10, 0x08000201D9940010, .dsMinRtnI64 ⟨0x10, false, 1, 2, 0, 8⟩),
    (.gcn10, 0x08000201D9980010, .dsMaxRtnI64 ⟨0x10, false, 1, 2, 0, 8⟩),
    (.gcn10, 0x08000201D99C0010, .dsMinRtnU64 ⟨0x10, false, 1, 2, 0, 8⟩),
    (.gcn10, 0x08000201D9A00010, .dsMaxRtnU64 ⟨0x10, false, 1, 2, 0, 8⟩),
    (.gcn10, 0x08000201D9A40010, .dsAndRtnB64 ⟨0x10, false, 1, 2, 0, 8⟩),
    (.gcn10, 0x08000201D9A80010, .dsOrRtnB64 ⟨0x10, false, 1, 2, 0, 8⟩),
    (.gcn10, 0x08000201D9AC0010, .dsXorRtnB64 ⟨0x10, false, 1, 2, 0, 8⟩),
    (.gcn10, 0x08040201D9B00010, .dsMskorRtnB64 ⟨0x10, false, 1, 2, 4, 8⟩),
    (.gcn10, 0x08000201D9B40010, .dsWrxchgRtnB64 ⟨0x10, false, 1, 2, 0, 8⟩),
    (.gcn10, 0x08040201D9B80301, .dsWrxchg2RtnB64 ⟨0x301, false, 1, 2, 4, 8⟩),
    (.gcn10, 0x08040201D9BC0301, .dsWrxchg2st64RtnB64 ⟨0x301, false, 1, 2, 4, 8⟩),
    (.gcn10, 0x08040201D9C00010, .dsCmpstRtnB64 ⟨0x10, false, 1, 2, 4, 8⟩),
    (.gcn10, 0x08040201D9C40010, .dsCmpstRtnF64 ⟨0x10, false, 1, 2, 4, 8⟩),
    (.gcn10, 0x08000201D9C80010, .dsMinRtnF64 ⟨0x10, false, 1, 2, 0, 8⟩),
    (.gcn10, 0x08000201D9CC0010, .dsMaxRtnF64 ⟨0x10, false, 1, 2, 0, 8⟩),
    (.gcn11, 0x08000201D9F80010, .dsCondxchg32RtnB64 ⟨0x10, false, 1, 2, 0, 8⟩),
    (.gcn11, 0x08000201DBF40010, .dsCondxchg32RtnB128 ⟨0x10, false, 1, 2, 0, 8⟩)] = true := by decide

/-- spec/46_ds_src2.md. -/
theorem test_decode_src2 : decodesAll [
    (.gcn10, 0x00000001DA000010, .dsAddSrc2U32 ⟨0x10, false, 1, 0, 0, 0⟩),
    (.gcn10, 0x00000001DA040010, .dsSubSrc2U32 ⟨0x10, false, 1, 0, 0, 0⟩),
    (.gcn10, 0x00000001DA080010, .dsRsubSrc2U32 ⟨0x10, false, 1, 0, 0, 0⟩),
    (.gcn10, 0x00000001DA0C0010, .dsIncSrc2U32 ⟨0x10, false, 1, 0, 0, 0⟩),
    (.gcn10, 0x00000001DA100010, .dsDecSrc2U32 ⟨0x10, false, 1, 0, 0, 0⟩),
    (.gcn10, 0x00000001DA140010, .dsMinSrc2I32 ⟨0x10, false, 1, 0, 0, 0⟩),
    (.gcn10, 0x00000001DA180010, .dsMaxSrc2I32 ⟨0x10, false, 1, 0, 0, 0⟩),
    (.gcn10, 0x00000001DA1C0010, .dsMinSrc2U32 ⟨0x10, false, 1, 0, 0, 0⟩),
    (.gcn10, 0x00000001DA200010, .dsMaxSrc2U32 ⟨0x10, false, 1, 0, 0, 0⟩),
    (.gcn10, 0x00000001DA240010, .dsAndSrc2B32 ⟨0x10, false, 1, 0, 0, 0⟩),
    (.gcn10, 0x00000001DA280010, .dsOrSrc2B32 ⟨0x10, false, 1, 0, 0, 0⟩),
    (.gcn10, 0x00000001DA2C0010, .dsXorSrc2B32 ⟨0x10, false, 1, 0, 0, 0⟩),
    (.gcn10, 0x00000001DA340010, .dsWriteSrc2B32 ⟨0x10, false, 1, 0, 0, 0⟩),
    (.gcn10, 0x00000001DA480010, .dsMinSrc2F32 ⟨0x10, false, 1, 0, 0, 0⟩),
    (.gcn10, 0x00000001DA4C0010, .dsMaxSrc2F32 ⟨0x10, false, 1, 0, 0, 0⟩),
    (.gcn12, 0x00000001DA540010, .dsAddSrc2F32 ⟨0x10, false, 1, 0, 0, 0⟩),
    (.gcn10, 0x00000001DB000010, .dsAddSrc2U64 ⟨0x10, false, 1, 0, 0, 0⟩),
    (.gcn10, 0x00000001DB040010, .dsSubSrc2U64 ⟨0x10, false, 1, 0, 0, 0⟩),
    (.gcn10, 0x00000001DB080010, .dsRsubSrc2U64 ⟨0x10, false, 1, 0, 0, 0⟩),
    (.gcn10, 0x00000001DB0C0010, .dsIncSrc2U64 ⟨0x10, false, 1, 0, 0, 0⟩),
    (.gcn10, 0x00000001DB100010, .dsDecSrc2U64 ⟨0x10, false, 1, 0, 0, 0⟩),
    (.gcn10, 0x00000001DB140010, .dsMinSrc2I64 ⟨0x10, false, 1, 0, 0, 0⟩),
    (.gcn10, 0x00000001DB180010, .dsMaxSrc2I64 ⟨0x10, false, 1, 0, 0, 0⟩),
    (.gcn10, 0x00000001DB1C0010, .dsMinSrc2U64 ⟨0x10, false, 1, 0, 0, 0⟩),
    (.gcn10, 0x00000001DB200010, .dsMaxSrc2U64 ⟨0x10, false, 1, 0, 0, 0⟩),
    (.gcn10, 0x00000001DB240010, .dsAndSrc2B64 ⟨0x10, false, 1, 0, 0, 0⟩),
    (.gcn10, 0x00000001DB280010, .dsOrSrc2B64 ⟨0x10, false, 1, 0, 0, 0⟩),
    (.gcn10, 0x00000001DB2C0010, .dsXorSrc2B64 ⟨0x10, false, 1, 0, 0, 0⟩),
    (.gcn10, 0x00000001DB300010, .dsWriteSrc2B64 ⟨0x10, false, 1, 0, 0, 0⟩),
    (.gcn10, 0x00000001DB480010, .dsMinSrc2F64 ⟨0x10, false, 1, 0, 0, 0⟩),
    (.gcn10, 0x00000001DB4C0010, .dsMaxSrc2F64 ⟨0x10, false, 1, 0, 0, 0⟩)] = true := by decide

/-- spec/47_ds_sync_lane_misc.md. -/
theorem test_decode_sync : decodesAll [
    (.gcn11, 0x00000000D8500000, .dsNop ⟨0x0, false, 0, 0, 0, 0⟩),
    (.gcn11, 0x00000000D8620010, .dsGwsSemaReleaseAll ⟨0x10, true, 0, 0, 0, 0⟩),
    (.gcn10, 0x00000000D8660010, .dsGwsInit ⟨0x10, true, 0, 0, 0, 0⟩),
    (.gcn10, 0x00000000D86A0010, .dsGwsSemaV ⟨0x10, true, 0, 0, 0, 0⟩),
    (.gcn10, 0x00000000D86E0010, .dsGwsSemaBr ⟨0x10, true, 0, 0, 0, 0⟩),
    (.gcn10, 0x00000000D8720010, .dsGwsSemaP ⟨0x10, true, 0, 0, 0, 0⟩),
    (.gcn10, 0x00000000D8760010, .dsGwsBarrier ⟨0x10, true, 0, 0, 0, 0⟩),
    (.gcn10, 0x08000001D8D40010, .dsSwizzleB32 ⟨0x10, false, 1, 0, 0, 8⟩),
    (.gcn10, 0x08000000D8F40010, .dsConsume ⟨0x10, false, 0, 0, 0, 8⟩),
    (.gcn10, 0x08000000D8F80010, .dsAppend ⟨0x10, false, 0, 0, 0, 8⟩),
    (.gcn10, 0x08000001D8FC0010, .dsOrderedCount ⟨0x10, false, 1, 0, 0, 8⟩),
    (.gcn12, 0x08000201D8F80010, .dsPermuteB32 ⟨0x10, false, 1, 2, 0, 8⟩),
    (.gcn12, 0x08000201D8FC0010, .dsBpermuteB32 ⟨0x10, false, 1, 2, 0, 8⟩)] = true := by decide

/-- spec/95_test_vectors.md 2.2, D1, D5, D15, D22, D24, D26, D28, D31: the same opcode by version, and fields an instruction
does not use. -/
theorem test_decode_vectors : decodesAll [
    (.gcn10, 0x00000201D8000005, .dsAddU32 ⟨5, false, 1, 2, 0, 0⟩),
    (.gcn10, 0xBBAA0201D8000005, .dsAddU32 ⟨5, false, 1, 2, 170, 187⟩),
    (.gcn11, 0xFFFFFFFFDBFEFFFF, .dsReadB128 ⟨65535, true, 255, 255, 255, 255⟩),
    (.gcn12, 0x00000000DA620010, .dsGwsSemaReleaseAll ⟨16, true, 0, 0, 0, 0⟩),
    (.gcn12, 0x04000100D8D40000, .dsAddRtnF32 ⟨0, false, 0, 1, 0, 4⟩),
    (.gcn12, 0x04000100D8F40000, .dsSwizzleB32 ⟨0, false, 0, 1, 0, 4⟩),
    (.gcn12, 0x04000100D8F80000, .dsPermuteB32 ⟨0, false, 0, 1, 0, 4⟩),
    (.gcn12, 0x00000000DB340000, .dsWriteSrc2B64 ⟨0, false, 0, 0, 0, 0⟩)] = true := by decide

/-- spec/95_test_vectors.md 2.2, D3, D6, D12, D13, D16, D18, D21, D30, D32: rejected by name, bit 16 before the opcode. -/
theorem test_decode_rejects :
    decode .sourceTable .gcn10 0x00000201D8010005 = .illegal .bit16
    ∧ decode .sourceTable .gcn10 0xD800000500000201 = .notDs
    ∧ decode .sourceTable .gcn10 0x00000201D8580000 = .illegal .unassignedOpcode
    ∧ decode .sourceTable .gcn12 0x00000201D8590000 = .illegal .bit16
    ∧ decode .sourceTable .gcn10 0x00000000D8500000 = .illegal .unassignedOpcode
    ∧ decode .sourceTable .gcn11 0x00000000D8540000 = .illegal .unassignedOpcode
    ∧ decode .sourceTable .gcn12 0x00000000D8620010 = .illegal .unassignedOpcode
    ∧ decode .sourceTable .gcn12 0x00000000DB300000 = .illegal .unassignedOpcode
    ∧ decode .sourceTable .gcn11 0x00000000DB340000 = .illegal .unassignedOpcode := by decide

/-- A byte string shorter than a word, and one longer: E13, `FF FF 30 D8 FF FE FD 00` (R85). -/
theorem test_decode_bytes :
    decodeBytes .sourceTable .gcn10 [0xFF, 0xFF, 0x30, 0xD8, 0xFF, 0xFE, 0xFD] = none
    ∧ decodeBytes .sourceTable .gcn10 [0xFF, 0xFF, 0x30, 0xD8, 0xFF, 0xFE, 0xFD, 0x00, 0x77]
      = some (.ds (.dsMskorB32 ⟨65535, false, 255, 254, 253, 0⟩), [0x77]) := by decide

/-- spec/95_test_vectors.md 2.1, E5, E13, E17: the encoder writes the same words. -/
theorem test_encode :
    encode .sourceTable .gcn10 (.dsDecU32 ⟨80, true, 5, 6, 0, 0⟩) = some 0x00000605D8120050
    ∧ encode .sourceTable .gcn11 (.dsMskorB32 ⟨65535, false, 255, 254, 253, 0⟩) = some 0x00FDFEFFD830FFFF
    ∧ encode .sourceTable .gcn12 (.dsWrite2B32 ⟨0x80FF, true, 16, 32, 48, 0⟩) = some 0x00302010D83A80FF
    ∧ encode .sourceTable .gcn10 (.dsNop ⟨0, false, 0, 0, 0, 0⟩) = none := by decide

/-- spec/95_test_vectors.md 2.1, E5, E16: `DS_DEC_U32 v5, v6 offset:80 GDS` and `DS_WRITE2_B32 v1, v2, v3 offset1:1`; R153's
`DS_MSKOR_RTN_B32 v8, v1, v2, v4 offset:16`, destination first; an offset out of range and a modifier of the wrong kind are errors (R88, R89). -/
theorem test_assemble :
    assemble ⟨.dsDecU32, [5, 6], some 80, none, none, true⟩ = some (.dsDecU32 ⟨80, true, 5, 6, 0, 0⟩)
    ∧ assemble ⟨.dsWrite2B32, [1, 2, 3], none, none, some 1, false⟩ = some (.dsWrite2B32 ⟨0x100, false, 1, 2, 3, 0⟩)
    ∧ assemble ⟨.dsMskorRtnB32, [8, 1, 2, 4], some 16, none, none, false⟩ = some (.dsMskorRtnB32 ⟨16, false, 1, 2, 4, 8⟩)
    ∧ assemble ⟨.dsDecU32, [5, 6], some 65536, none, none, false⟩ = none
    ∧ assemble ⟨.dsWrite2B32, [1, 2, 3], some 1, none, none, false⟩ = none := by decide

/-- The host's two questions, on the table's rows of `DS_ADD_U32`, `DS_NOP` and the oldest `DS_WRITE_SRC2_B64`. -/
theorem test_table_words :
    decodeTableWord 64 0xD8000000 = some (.dsAddU32 ⟨0, false, 0, 0, 0, 0⟩)
    ∧ decodeTableWord 64 0xD8500000 = some (.dsNop ⟨0, false, 0, 0, 0, 0⟩)
    ∧ decodeTableWord 64 0xDB300000 = some (.dsWriteSrc2B64 ⟨0, false, 0, 0, 0, 0⟩)
    ∧ decodeTableWord 64 0xBF810000 = none := by decide

/-- The word placed where the step fetches runs as the first instruction after reset. -/
theorem test_fetch_word :
    nextIs (step (State.reset.withFetchWord 64 0xD8500000))
      { State.reset.withFetchWord 64 0xD8500000 with pc := 8 } = true := by decide

/-! ## Reset -/

/-- Reset as R5 and the log entries 1 to 5 say it, and that nothing runs from it (log entry 14). -/
theorem test_reset :
    State.reset.pc = 0 ∧ State.reset.m0 = 0xFFFFFFFF ∧ State.reset.m0Written = true
    ∧ State.reset.activeLanes = [0] ∧ State.reset.params.admitGk = false ∧ State.reset.lds.wf ∧ State.reset.gds.wf ∧ State.reset.imem.wf
    ∧ refusedIs (step State.reset) .runEnded = true := by decide


/-! ## One step of each instruction that runs, from the vectors of spec/95_test_vectors.md -/

/-- R101; vectors 2.4. -/
theorem test_ds_add_u32 :
    runs 0x00000201D8000000 .lds [(1, 0x100), (2, 0x2), (3, 0x0)]
      [(0x100, 0xFFFFFFFF)] [(0x100, 0x1)] [] = true := by decide

/-- R101; vectors 2.4, M2. -/
theorem test_ds_add_u32_second :
    runs 0x00000201D8000000 .lds [(1, 0x103), (2, 0x1)]
      [(0x100, 0x7)] [(0x100, 0x8)] [] = true := by decide

/-- R102; vectors 2.4. -/
theorem test_ds_sub_u32 :
    runs 0x00000201D8040000 .lds [(1, 0x100), (2, 0x1), (3, 0x0)]
      [(0x100, 0x0)] [(0x100, 0xFFFFFFFF)] [] = true := by decide

/-- R102; vectors 2.4. -/
theorem test_ds_sub_u32_second :
    runs 0x00000201D8040000 .lds [(1, 0x100), (2, 0x0), (3, 0x0)]
      [(0x100, 0x12345678)] [(0x100, 0x12345678)] [] = true := by decide

/-- R103; vectors 2.4. -/
theorem test_ds_rsub_u32 :
    runs 0x00000201D8080000 .lds [(1, 0x100), (2, 0x0), (3, 0x0)]
      [(0x100, 0x1)] [(0x100, 0xFFFFFFFF)] [] = true := by decide

/-- R103; vectors 2.4. -/
theorem test_ds_rsub_u32_second :
    runs 0x00000201D8080000 .lds [(1, 0x100), (2, 0x12345678), (3, 0x0)]
      [(0x100, 0x0)] [(0x100, 0x12345678)] [] = true := by decide

/-- R104; vectors 2.4. -/
theorem test_ds_inc_u32 :
    runs 0x00000201D80C0000 .lds [(1, 0x100), (2, 0x5), (3, 0x0)]
      [(0x100, 0x4)] [(0x100, 0x5)] [] = true := by decide

/-- R104; vectors 2.4. -/
theorem test_ds_inc_u32_second :
    runs 0x00000201D80C0000 .lds [(1, 0x100), (2, 0x7FFFFFFF), (3, 0x0)]
      [(0x100, 0x80000000)] [(0x100, 0x0)] [] = true := by decide

/-- R105; vectors 2.4. -/
theorem test_ds_dec_u32 :
    runs 0x00000201D8100000 .lds [(1, 0x100), (2, 0x7), (3, 0x0)]
      [(0x100, 0x5)] [(0x100, 0x4)] [] = true := by decide

/-- R105; vectors 2.4, M4. -/
theorem test_ds_dec_u32_second :
    runs 0x00000201D8120042 .gds [(1, 0x40), (2, 0x9)]
      [(0x80, 0x0)] [(0x80, 0x9)] [] = true := by decide

/-- R106; vectors 2.4. -/
theorem test_ds_min_i32 :
    runs 0x00000201D8140000 .lds [(1, 0x100), (2, 0x1), (3, 0x0)]
      [(0x100, 0xFFFFFFFF)] [(0x100, 0xFFFFFFFF)] [] = true := by decide

/-- R106; vectors 2.4. -/
theorem test_ds_min_i32_second :
    runs 0x00000201D8140000 .lds [(1, 0x100), (2, 0x80000000), (3, 0x0)]
      [(0x100, 0x0)] [(0x100, 0x80000000)] [] = true := by decide

/-- R107; vectors 2.4. -/
theorem test_ds_max_i32 :
    runs 0x00000201D8180000 .lds [(1, 0x100), (2, 0x1), (3, 0x0)]
      [(0x100, 0xFFFFFFFF)] [(0x100, 0x1)] [] = true := by decide

/-- R107; vectors 2.4, M5. -/
theorem test_ds_max_i32_second :
    runs 0x00000201D818FFFF .lds [(1, 0x0), (2, 0xFFFFFFFF)]
      [(0xFFFC, 0x80000000)] [(0xFFFC, 0xFFFFFFFF)] [] = true := by decide

/-- R108; vectors 2.4. -/
theorem test_ds_min_u32 :
    runs 0x00000201D81C0000 .lds [(1, 0x100), (2, 0x1), (3, 0x0)]
      [(0x100, 0xFFFFFFFF)] [(0x100, 0x1)] [] = true := by decide

/-- R108; vectors 2.4. -/
theorem test_ds_min_u32_second :
    runs 0x00000201D81C0000 .lds [(1, 0x100), (2, 0x0), (3, 0x0)]
      [(0x100, 0x0)] [(0x100, 0x0)] [] = true := by decide

/-- R109; vectors 2.4. -/
theorem test_ds_max_u32 :
    runs 0x00000201D8200000 .lds [(1, 0x100), (2, 0x1), (3, 0x0)]
      [(0x100, 0xFFFFFFFF)] [(0x100, 0xFFFFFFFF)] [] = true := by decide

/-- R109; vectors 2.4. -/
theorem test_ds_max_u32_second :
    runs 0x00000201D8200000 .lds [(1, 0x100), (2, 0x0), (3, 0x0)]
      [(0x100, 0x0)] [(0x100, 0x0)] [] = true := by decide

/-- R110; vectors 2.4. -/
theorem test_ds_and_b32 :
    runs 0x00000201D8240000 .lds [(1, 0x100), (2, 0xFF00FF00), (3, 0x0)]
      [(0x100, 0xF0F0F0F0)] [(0x100, 0xF000F000)] [] = true := by decide

/-- R110; vectors 2.4. -/
theorem test_ds_and_b32_second :
    runs 0x00000201D8240000 .lds [(1, 0x100), (2, 0x80000001), (3, 0x0)]
      [(0x100, 0xFFFFFFFF)] [(0x100, 0x80000001)] [] = true := by decide

/-- R111; vectors 2.4. -/
theorem test_ds_or_b32 :
    runs 0x00000201D8280000 .lds [(1, 0x100), (2, 0xFF00FF00), (3, 0x0)]
      [(0x100, 0xF0F0F0F0)] [(0x100, 0xFFF0FFF0)] [] = true := by decide

/-- R111; vectors 2.4, M3. -/
theorem test_ds_or_b32_second :
    runs 0x00000201D82A0FF8 .gds [(1, 0x2), (2, 0xF0)]
      [(0xFF8, 0xF)] [(0xFF8, 0xFF)] [] = true := by decide

/-- R112; vectors 2.4. -/
theorem test_ds_xor_b32 :
    runs 0x00000201D82C0000 .lds [(1, 0x100), (2, 0xFF00FF00), (3, 0x0)]
      [(0x100, 0xF0F0F0F0)] [(0x100, 0xFF00FF0)] [] = true := by decide

/-- R112; vectors 2.4. -/
theorem test_ds_xor_b32_second :
    runs 0x00000201D82C0000 .lds [(1, 0x100), (2, 0xFFFFFFFF), (3, 0x0)]
      [(0x100, 0x12345678)] [(0x100, 0xEDCBA987)] [] = true := by decide

/-- R113; vectors 2.4. -/
theorem test_ds_mskor_b32 :
    runs 0x00030201D8300000 .lds [(1, 0x100), (2, 0xFF00), (3, 0x1200)]
      [(0x100, 0xAABBCCDD)] [(0x100, 0xAABB12DD)] [] = true := by decide

/-- R113; vectors 2.4. -/
theorem test_ds_mskor_b32_second :
    runs 0x00030201D8300000 .lds [(1, 0x100), (2, 0xFFFF0000), (3, 0xFFFF)]
      [(0x100, 0x0)] [(0x100, 0xFFFF)] [] = true := by decide

/-- R121; vectors 2.5, W1. -/
theorem test_ds_write_b32 :
    runs 0x00000201D8340000 .lds [(1, 0x100), (2, 0x11223344)]
      [] [(0x100, 0x11223344)] [] = true := by decide

/-- R122; vectors 2.5, W5. -/
theorem test_ds_write2_b32 :
    runs 0x00030201D8380100 .lds [(1, 0x100), (2, 0x11111111), (3, 0x22222222)]
      [] [(0x100, 0x11111111), (0x104, 0x22222222)] [] = true := by decide

/-- R123; vectors 2.8, J6. -/
theorem test_ds_write2st64_b32 :
    runs 0x00030201D83C0001 .lds [(1, 0x400), (2, 0x11111111), (3, 0x22222222)]
      [(0x100, 0xB3A29180), (0x104, 0xF7E6D5C4), (0x500, 0xAAAA), (0x504, 0xBBBB)] [(0x400, 0x22222222), (0x500, 0x11111111)] [] = true := by decide

/-- R114; vectors 2.8, G1. -/
theorem test_ds_cmpst_b32 :
    runs 0x00030201D8400000 .lds [(1, 0x100), (2, 0x5), (3, 0x9)]
      [(0x100, 0x5)] [(0x100, 0x9)] [] = true := by decide

/-- R124; vectors 2.8, J1. -/
theorem test_ds_write_b8 :
    runs 0x00000201D8780000 .lds [(1, 0x101), (2, 0x12345678)]
      [(0x100, 0xB3A29180), (0x104, 0xF7E6D5C4), (0x500, 0xAAAA), (0x504, 0xBBBB)] [(0x100, 0xB3A27880)] [] = true := by decide

/-- R125; vectors 2.8, J2. -/
theorem test_ds_write_b16 :
    runs 0x00000201D87C0000 .lds [(1, 0x102), (2, 0x12345678)]
      [(0x100, 0xB3A29180), (0x104, 0xF7E6D5C4), (0x500, 0xAAAA), (0x504, 0xBBBB)] [(0x100, 0x56789180)] [] = true := by decide

/-- R141; vectors 2.8, G3. -/
theorem test_ds_add_rtn_u32 :
    runs 0x04000201D8800000 .lds [(1, 0x100), (2, 0x2)]
      [(0x100, 0xFFFFFFFF)] [(0x100, 0x1)] [(4, 0xFFFFFFFF)] = true := by decide

/-- R142; vectors 2.8, G4. -/
theorem test_ds_sub_rtn_u32 :
    runs 0x04000201D8840000 .lds [(1, 0x100), (2, 0x1)]
      [(0x100, 0x0)] [(0x100, 0xFFFFFFFF)] [(4, 0x0)] = true := by decide

/-- R143; vectors 2.8, G5. -/
theorem test_ds_rsub_rtn_u32 :
    runs 0x04000201D8880000 .lds [(1, 0x100), (2, 0xA)]
      [(0x100, 0x3)] [(0x100, 0x7)] [(4, 0x3)] = true := by decide

/-- R144; vectors 2.8, G6. -/
theorem test_ds_inc_rtn_u32 :
    runs 0x04000201D88C0000 .lds [(1, 0x100), (2, 0x5)]
      [(0x100, 0x5)] [(0x100, 0x0)] [(4, 0x5)] = true := by decide

/-- R145; vectors 2.8, G7. -/
theorem test_ds_dec_rtn_u32 :
    runs 0x04000201D8900000 .lds [(1, 0x100), (2, 0x7)]
      [(0x100, 0x0)] [(0x100, 0x7)] [(4, 0x0)] = true := by decide

/-- R146; vectors 2.8, G8. -/
theorem test_ds_min_rtn_i32 :
    runs 0x04000201D8940000 .lds [(1, 0x100), (2, 0x1)]
      [(0x100, 0xFFFFFFFF)] [(0x100, 0xFFFFFFFF)] [(4, 0xFFFFFFFF)] = true := by decide

/-- R147; vectors 2.8, G9. -/
theorem test_ds_max_rtn_i32 :
    runs 0x04000201D8980000 .lds [(1, 0x100), (2, 0x1)]
      [(0x100, 0xFFFFFFFF)] [(0x100, 0x1)] [(4, 0xFFFFFFFF)] = true := by decide

/-- R148; vectors 2.8, G10. -/
theorem test_ds_min_rtn_u32 :
    runs 0x04000201D89C0000 .lds [(1, 0x100), (2, 0x1)]
      [(0x100, 0xFFFFFFFF)] [(0x100, 0x1)] [(4, 0xFFFFFFFF)] = true := by decide

/-- R149; vectors 2.8, G11. -/
theorem test_ds_max_rtn_u32 :
    runs 0x04000201D8A00000 .lds [(1, 0x100), (2, 0x1)]
      [(0x100, 0xFFFFFFFF)] [(0x100, 0xFFFFFFFF)] [(4, 0xFFFFFFFF)] = true := by decide

/-- R150; vectors 2.8, G12. -/
theorem test_ds_and_rtn_b32 :
    runs 0x04000201D8A40000 .lds [(1, 0x100), (2, 0xFF00FF00)]
      [(0x100, 0xF0F0F0F0)] [(0x100, 0xF000F000)] [(4, 0xF0F0F0F0)] = true := by decide

/-- R151; vectors 2.8, G13. -/
theorem test_ds_or_rtn_b32 :
    runs 0x04000201D8A80000 .lds [(1, 0x100), (2, 0xFF00FF00)]
      [(0x100, 0xF0F0F0F0)] [(0x100, 0xFFF0FFF0)] [(4, 0xF0F0F0F0)] = true := by decide

/-- R152; vectors 2.8, G14. -/
theorem test_ds_xor_rtn_b32 :
    runs 0x04000201D8AC0000 .lds [(1, 0x100), (2, 0xFF00FF00)]
      [(0x100, 0xF0F0F0F0)] [(0x100, 0xFF00FF0)] [(4, 0xF0F0F0F0)] = true := by decide

/-- R153; vectors 2.8, G15. -/
theorem test_ds_mskor_rtn_b32 :
    runs 0x04030201D8B00000 .lds [(1, 0x100), (2, 0xFF00), (3, 0x1200)]
      [(0x100, 0xAABBCCDD)] [(0x100, 0xAABB12DD)] [(4, 0xAABBCCDD)] = true := by decide

/-- R154; vectors 2.8, G16. -/
theorem test_ds_wrxchg_rtn_b32 :
    runs 0x04000201D8B40000 .lds [(1, 0x100), (2, 0x22222222)]
      [(0x100, 0x11111111)] [(0x100, 0x22222222)] [(4, 0x11111111)] = true := by decide

/-- R155; vectors 2.8, Q1. -/
theorem test_ds_wrxchg2_rtn_b32 :
    runs 0x04030201D8B80100 .lds [(1, 0x100), (2, 0x11111111), (3, 0x22222222)]
      [(0x100, 0xB3A29180), (0x104, 0xF7E6D5C4), (0x500, 0xAAAA), (0x504, 0xBBBB)] [(0x100, 0x11111111), (0x104, 0x22222222)] [(4, 0xB3A29180), (5, 0xF7E6D5C4)] = true := by decide

/-- R156; vectors 2.8, Q2. -/
theorem test_ds_wrxchg2st64_rtn_b32 :
    runs 0x04030201D8BC0001 .lds [(1, 0x400), (2, 0x11111111), (3, 0x22222222)]
      [(0x100, 0xB3A29180), (0x104, 0xF7E6D5C4), (0x500, 0xAAAA), (0x504, 0xBBBB)] [(0x400, 0x22222222), (0x500, 0x11111111)] [(4, 0xAAAA), (5, 0x0)] = true := by decide

/-- R157; vectors 2.8, G17. -/
theorem test_ds_cmpst_rtn_b32 :
    runs 0x04030201D8C00000 .lds [(1, 0x100), (2, 0x5), (3, 0x9)]
      [(0x100, 0x5)] [(0x100, 0x9)] [(4, 0x5)] = true := by decide

/-- R171; vectors 2.8, H1. -/
theorem test_ds_read_b32 :
    runs 0x04000001D8D80000 .lds [(1, 0x100)]
      [(0x100, 0xB3A29180), (0x104, 0xF7E6D5C4), (0x500, 0xAAAA), (0x504, 0xBBBB)] [(0x100, 0xB3A29180), (0x104, 0xF7E6D5C4), (0x500, 0xAAAA), (0x504, 0xBBBB)] [(4, 0xB3A29180)] = true := by decide

/-- R172; vectors 2.8, H13. -/
theorem test_ds_read2_b32 :
    runs 0x04000001D8DC0001 .lds [(1, 0x100)]
      [(0x100, 0xB3A29180), (0x104, 0xF7E6D5C4), (0x500, 0xAAAA), (0x504, 0xBBBB)] [(0x100, 0xB3A29180), (0x104, 0xF7E6D5C4), (0x500, 0xAAAA), (0x504, 0xBBBB)] [(4, 0xF7E6D5C4), (5, 0xB3A29180)] = true := by decide

/-- R173; vectors 2.8, H14. -/
theorem test_ds_read2st64_b32 :
    runs 0x04000001D8E00001 .lds [(1, 0x400)]
      [(0x100, 0xB3A29180), (0x104, 0xF7E6D5C4), (0x500, 0xAAAA), (0x504, 0xBBBB)] [(0x100, 0xB3A29180), (0x104, 0xF7E6D5C4), (0x500, 0xAAAA), (0x504, 0xBBBB)] [(4, 0xAAAA), (5, 0x0)] = true := by decide

/-- R174; vectors 2.8, H4. -/
theorem test_ds_read_i8 :
    runs 0x04000001D8E40000 .lds [(1, 0x100)]
      [(0x100, 0xB3A29180), (0x104, 0xF7E6D5C4), (0x500, 0xAAAA), (0x504, 0xBBBB)] [(0x100, 0xB3A29180), (0x104, 0xF7E6D5C4), (0x500, 0xAAAA), (0x504, 0xBBBB)] [(4, 0xFFFFFF80)] = true := by decide

/-- R175; vectors 2.8, H3. -/
theorem test_ds_read_u8 :
    runs 0x04000001D8E80000 .lds [(1, 0x100)]
      [(0x100, 0xB3A29180), (0x104, 0xF7E6D5C4), (0x500, 0xAAAA), (0x504, 0xBBBB)] [(0x100, 0xB3A29180), (0x104, 0xF7E6D5C4), (0x500, 0xAAAA), (0x504, 0xBBBB)] [(4, 0x80)] = true := by decide

/-- R176; vectors 2.8, H8. -/
theorem test_ds_read_i16 :
    runs 0x04000001D8EC0000 .lds [(1, 0x102)]
      [(0x100, 0xB3A29180), (0x104, 0xF7E6D5C4), (0x500, 0xAAAA), (0x504, 0xBBBB)] [(0x100, 0xB3A29180), (0x104, 0xF7E6D5C4), (0x500, 0xAAAA), (0x504, 0xBBBB)] [(4, 0xFFFFB3A2)] = true := by decide

/-- R177; vectors 2.8, H7. -/
theorem test_ds_read_u16 :
    runs 0x04000001D8F00000 .lds [(1, 0x102)]
      [(0x100, 0xB3A29180), (0x104, 0xF7E6D5C4), (0x500, 0xAAAA), (0x504, 0xBBBB)] [(0x100, 0xB3A29180), (0x104, 0xF7E6D5C4), (0x500, 0xAAAA), (0x504, 0xBBBB)] [(4, 0xB3A2)] = true := by decide

/-- R191; vectors 2.8, K1. -/
theorem test_ds_add_u64 :
    runs 0x00000201D9000000 .lds [(1, 0x100), (2, 0x1), (3, 0x0)]
      [(0x100, 0xFFFFFFFF), (0x104, 0x0)] [(0x100, 0x0), (0x104, 0x1)] [] = true := by decide

/-- R192; vectors 2.8, K3. -/
theorem test_ds_sub_u64 :
    runs 0x00000201D9040000 .lds [(1, 0x100), (2, 0x1), (3, 0x0)]
      [(0x100, 0x0), (0x104, 0x1)] [(0x100, 0xFFFFFFFF), (0x104, 0x0)] [] = true := by decide

/-- R193; vectors 2.8, K4. -/
theorem test_ds_rsub_u64 :
    runs 0x00000201D9080000 .lds [(1, 0x100), (2, 0x0), (3, 0x0)]
      [(0x100, 0x1), (0x104, 0x0)] [(0x100, 0xFFFFFFFF), (0x104, 0xFFFFFFFF)] [] = true := by decide

/-- R194; vectors 2.8, K5. -/
theorem test_ds_inc_u64 :
    runs 0x00000201D90C0000 .lds [(1, 0x100), (2, 0x0), (3, 0x1)]
      [(0x100, 0xFFFFFFFF), (0x104, 0x0)] [(0x100, 0x0), (0x104, 0x1)] [] = true := by decide

/-- R195; vectors 2.8, K7. -/
theorem test_ds_dec_u64 :
    runs 0x00000201D9100000 .lds [(1, 0x100), (2, 0x0), (3, 0x1)]
      [(0x100, 0x0), (0x104, 0x0)] [(0x100, 0x0), (0x104, 0x1)] [] = true := by decide

/-- R196; vectors 2.8, K9. -/
theorem test_ds_min_i64 :
    runs 0x00000201D9140000 .lds [(1, 0x100), (2, 0x1), (3, 0x0)]
      [(0x100, 0xFFFFFFFF), (0x104, 0xFFFFFFFF)] [(0x100, 0xFFFFFFFF), (0x104, 0xFFFFFFFF)] [] = true := by decide

/-- R197; vectors 2.8, K10. -/
theorem test_ds_max_i64 :
    runs 0x00000201D9180000 .lds [(1, 0x100), (2, 0x1), (3, 0x0)]
      [(0x100, 0xFFFFFFFF), (0x104, 0xFFFFFFFF)] [(0x100, 0x1), (0x104, 0x0)] [] = true := by decide

/-- R198; vectors 2.8, K11. -/
theorem test_ds_min_u64 :
    runs 0x00000201D91C0000 .lds [(1, 0x100), (2, 0x1), (3, 0x0)]
      [(0x100, 0xFFFFFFFF), (0x104, 0xFFFFFFFF)] [(0x100, 0x1), (0x104, 0x0)] [] = true := by decide

/-- R199; vectors 2.8, K12. -/
theorem test_ds_max_u64 :
    runs 0x00000201D9200000 .lds [(1, 0x100), (2, 0xFFFFFFFF), (3, 0x7FFFFFFF)]
      [(0x100, 0x0), (0x104, 0x80000000)] [(0x100, 0x0), (0x104, 0x80000000)] [] = true := by decide

/-- R200; vectors 2.8, K14. -/
theorem test_ds_and_b64 :
    runs 0x00000201D9240000 .lds [(1, 0x100), (2, 0xFF00FF00), (3, 0xFF00FF00)]
      [(0x100, 0xF0F0F0F0), (0x104, 0xF0F0F0F0)] [(0x100, 0xF000F000), (0x104, 0xF000F000)] [] = true := by decide

/-- R201; vectors 2.8, K15. -/
theorem test_ds_or_b64 :
    runs 0x00000201D9280000 .lds [(1, 0x100), (2, 0xFF00FF00), (3, 0xFF00FF00)]
      [(0x100, 0xF0F0F0F0), (0x104, 0xF0F0F0F0)] [(0x100, 0xFFF0FFF0), (0x104, 0xFFF0FFF0)] [] = true := by decide

/-- R202; vectors 2.8, K16. -/
theorem test_ds_xor_b64 :
    runs 0x00000201D92C0000 .lds [(1, 0x100), (2, 0xFF00FF00), (3, 0xFF00FF00)]
      [(0x100, 0xF0F0F0F0), (0x104, 0xF0F0F0F0)] [(0x100, 0xFF00FF0), (0x104, 0xFF00FF0)] [] = true := by decide

/-- R203; vectors 2.8, K17. -/
theorem test_ds_mskor_b64 :
    runs 0x00040201D9300000 .lds [(1, 0x100), (2, 0xFFFF0000), (3, 0x0), (4, 0x12340000), (5, 0x0)]
      [(0x100, 0xEEFF0011), (0x104, 0xAABBCCDD)] [(0x100, 0x12340011), (0x104, 0xAABBCCDD)] [] = true := by decide

/-- R126; vectors 2.8, J4. -/
theorem test_ds_write_b64 :
    runs 0x00000201D9340000 .lds [(1, 0x100), (2, 0x55667788), (3, 0x11223344)]
      [(0x100, 0xB3A29180), (0x104, 0xF7E6D5C4), (0x500, 0xAAAA), (0x504, 0xBBBB)] [(0x100, 0x55667788), (0x104, 0x11223344)] [] = true := by decide

/-- R127; vectors 2.8, J7. -/
theorem test_ds_write2_b64 :
    runs 0x00040201D9380100 .lds [(1, 0x100), (2, 0x22222222), (3, 0x11111111), (4, 0x44444444), (5, 0x33333333)]
      [(0x100, 0xB3A29180), (0x104, 0xF7E6D5C4), (0x500, 0xAAAA), (0x504, 0xBBBB)] [(0x100, 0x22222222), (0x104, 0x11111111), (0x108, 0x44444444), (0x10C, 0x33333333)] [] = true := by decide

/-- R128; vectors 2.8, J8. -/
theorem test_ds_write2st64_b64 :
    runs 0x00040201D93C0200 .lds [(1, 0x100), (2, 0x22222222), (3, 0x11111111), (4, 0x44444444), (5, 0x33333333)]
      [(0x100, 0xB3A29180), (0x104, 0xF7E6D5C4), (0x500, 0xAAAA), (0x504, 0xBBBB)] [(0x100, 0x22222222), (0x104, 0x11111111), (0x500, 0x44444444), (0x504, 0x33333333)] [] = true := by decide

/-- R204; vectors 2.8, K18. -/
theorem test_ds_cmpst_b64 :
    runs 0x00040201D9400000 .lds [(1, 0x100), (2, 0x5), (3, 0x5), (4, 0x9), (5, 0x0)]
      [(0x100, 0x5), (0x104, 0x5)] [(0x100, 0x9), (0x104, 0x0)] [] = true := by decide

/-- R208; vectors 2.8, K20. -/
theorem test_ds_add_rtn_u64 :
    runs 0x06000201D9800000 .lds [(1, 0x100), (2, 0x1), (3, 0x0)]
      [(0x100, 0xFFFFFFFF), (0x104, 0x0)] [(0x100, 0x0), (0x104, 0x1)] [(6, 0xFFFFFFFF), (7, 0x0)] = true := by decide

/-- R209; vectors 2.8, K21. -/
theorem test_ds_sub_rtn_u64 :
    runs 0x06000201D9840000 .lds [(1, 0x100), (2, 0x1), (3, 0x0)]
      [(0x100, 0x0), (0x104, 0x0)] [(0x100, 0xFFFFFFFF), (0x104, 0xFFFFFFFF)] [(6, 0x0), (7, 0x0)] = true := by decide

/-- R210; vectors 2.8, K22. -/
theorem test_ds_rsub_rtn_u64 :
    runs 0x06000201D9880000 .lds [(1, 0x100), (2, 0xA), (3, 0x0)]
      [(0x100, 0x3), (0x104, 0x0)] [(0x100, 0x7), (0x104, 0x0)] [(6, 0x3), (7, 0x0)] = true := by decide

/-- R211; vectors 2.8, K23. -/
theorem test_ds_inc_rtn_u64 :
    runs 0x06000201D98C0000 .lds [(1, 0x100), (2, 0x5), (3, 0x0)]
      [(0x100, 0x5), (0x104, 0x0)] [(0x100, 0x0), (0x104, 0x0)] [(6, 0x5), (7, 0x0)] = true := by decide

/-- R212; vectors 2.8, K24. -/
theorem test_ds_dec_rtn_u64 :
    runs 0x06000201D9900000 .lds [(1, 0x100), (2, 0x7), (3, 0x0)]
      [(0x100, 0x0), (0x104, 0x0)] [(0x100, 0x7), (0x104, 0x0)] [(6, 0x0), (7, 0x0)] = true := by decide

/-- R213; vectors 2.8, K25. -/
theorem test_ds_min_rtn_i64 :
    runs 0x06000201D9940000 .lds [(1, 0x100), (2, 0x1), (3, 0x0)]
      [(0x100, 0xFFFFFFFF), (0x104, 0xFFFFFFFF)] [(0x100, 0xFFFFFFFF), (0x104, 0xFFFFFFFF)] [(6, 0xFFFFFFFF), (7, 0xFFFFFFFF)] = true := by decide

/-- R214; vectors 2.8, K26. -/
theorem test_ds_max_rtn_i64 :
    runs 0x06000201D9980000 .lds [(1, 0x100), (2, 0x1), (3, 0x0)]
      [(0x100, 0xFFFFFFFF), (0x104, 0xFFFFFFFF)] [(0x100, 0x1), (0x104, 0x0)] [(6, 0xFFFFFFFF), (7, 0xFFFFFFFF)] = true := by decide

/-- R215; vectors 2.8, K27. -/
theorem test_ds_min_rtn_u64 :
    runs 0x06000201D99C0000 .lds [(1, 0x100), (2, 0x1), (3, 0x0)]
      [(0x100, 0xFFFFFFFF), (0x104, 0xFFFFFFFF)] [(0x100, 0x1), (0x104, 0x0)] [(6, 0xFFFFFFFF), (7, 0xFFFFFFFF)] = true := by decide

/-- R216; vectors 2.8, K28. -/
theorem test_ds_max_rtn_u64 :
    runs 0x06000201D9A00000 .lds [(1, 0x100), (2, 0x1), (3, 0x0)]
      [(0x100, 0xFFFFFFFF), (0x104, 0xFFFFFFFF)] [(0x100, 0xFFFFFFFF), (0x104, 0xFFFFFFFF)] [(6, 0xFFFFFFFF), (7, 0xFFFFFFFF)] = true := by decide

/-- R217; vectors 2.8, K29. -/
theorem test_ds_and_rtn_b64 :
    runs 0x06000201D9A40000 .lds [(1, 0x100), (2, 0xFF00FF00), (3, 0xFF00FF00)]
      [(0x100, 0xF0F0F0F0), (0x104, 0xF0F0F0F0)] [(0x100, 0xF000F000), (0x104, 0xF000F000)] [(6, 0xF0F0F0F0), (7, 0xF0F0F0F0)] = true := by decide

/-- R218; vectors 2.8, K30. -/
theorem test_ds_or_rtn_b64 :
    runs 0x06000201D9A80000 .lds [(1, 0x100), (2, 0xFF00FF00), (3, 0xFF00FF00)]
      [(0x100, 0xF0F0F0F0), (0x104, 0xF0F0F0F0)] [(0x100, 0xFFF0FFF0), (0x104, 0xFFF0FFF0)] [(6, 0xF0F0F0F0), (7, 0xF0F0F0F0)] = true := by decide

/-- R219; vectors 2.8, K31. -/
theorem test_ds_xor_rtn_b64 :
    runs 0x06000201D9AC0000 .lds [(1, 0x100), (2, 0xFF00FF00), (3, 0xFF00FF00)]
      [(0x100, 0xF0F0F0F0), (0x104, 0xF0F0F0F0)] [(0x100, 0xFF00FF0), (0x104, 0xFF00FF0)] [(6, 0xF0F0F0F0), (7, 0xF0F0F0F0)] = true := by decide

/-- R220; vectors 2.8, K32. -/
theorem test_ds_mskor_rtn_b64 :
    runs 0x06040201D9B00000 .lds [(1, 0x100), (2, 0xFFFF0000), (3, 0x0), (4, 0x12340000), (5, 0x0)]
      [(0x100, 0xEEFF0011), (0x104, 0xAABBCCDD)] [(0x100, 0x12340011), (0x104, 0xAABBCCDD)] [(6, 0xEEFF0011), (7, 0xAABBCCDD)] = true := by decide

/-- R221; vectors 2.8, K33. -/
theorem test_ds_wrxchg_rtn_b64 :
    runs 0x06000201D9B40000 .lds [(1, 0x100), (2, 0x44444444), (3, 0x33333333)]
      [(0x100, 0x22222222), (0x104, 0x11111111)] [(0x100, 0x44444444), (0x104, 0x33333333)] [(6, 0x22222222), (7, 0x11111111)] = true := by decide

/-- R222; vectors 2.8, Q3. -/
theorem test_ds_wrxchg2_rtn_b64 :
    runs 0x06040201D9B88000 .lds [(1, 0x100), (2, 0x22222222), (3, 0x11111111), (4, 0x44444444), (5, 0x33333333)]
      [(0x100, 0xB3A29180), (0x104, 0xF7E6D5C4), (0x500, 0xAAAA), (0x504, 0xBBBB)] [(0x100, 0x22222222), (0x104, 0x11111111), (0x500, 0x44444444), (0x504, 0x33333333)] [(6, 0xB3A29180), (7, 0xF7E6D5C4), (8, 0xAAAA), (9, 0xBBBB)] = true := by decide

/-- R223; vectors 2.8, Q4. -/
theorem test_ds_wrxchg2st64_rtn_b64 :
    runs 0x06040201D9BC0200 .lds [(1, 0x100), (2, 0x22222222), (3, 0x11111111), (4, 0x44444444), (5, 0x33333333)]
      [(0x100, 0xB3A29180), (0x104, 0xF7E6D5C4), (0x500, 0xAAAA), (0x504, 0xBBBB)] [(0x100, 0x22222222), (0x104, 0x11111111), (0x500, 0x44444444), (0x504, 0x33333333)] [(6, 0xB3A29180), (7, 0xF7E6D5C4), (8, 0xAAAA), (9, 0xBBBB)] = true := by decide

/-- R224; vectors 2.8, K34. -/
theorem test_ds_cmpst_rtn_b64 :
    runs 0x06040201D9C00000 .lds [(1, 0x100), (2, 0x5), (3, 0x5), (4, 0x9), (5, 0x0)]
      [(0x100, 0x5), (0x104, 0x5)] [(0x100, 0x9), (0x104, 0x0)] [(6, 0x5), (7, 0x5)] = true := by decide

/-- R178; vectors 2.8, H11. -/
theorem test_ds_read_b64 :
    runs 0x04000001D9D80000 .lds [(1, 0x100)]
      [(0x100, 0xB3A29180), (0x104, 0xF7E6D5C4), (0x500, 0xAAAA), (0x504, 0xBBBB)] [(0x100, 0xB3A29180), (0x104, 0xF7E6D5C4), (0x500, 0xAAAA), (0x504, 0xBBBB)] [(4, 0xB3A29180), (5, 0xF7E6D5C4)] = true := by decide

/-- R179; vectors 2.8, H15. -/
theorem test_ds_read2_b64 :
    runs 0x04000001D9DC8000 .lds [(1, 0x100)]
      [(0x100, 0xB3A29180), (0x104, 0xF7E6D5C4), (0x500, 0xAAAA), (0x504, 0xBBBB)] [(0x100, 0xB3A29180), (0x104, 0xF7E6D5C4), (0x500, 0xAAAA), (0x504, 0xBBBB)] [(4, 0xB3A29180), (5, 0xF7E6D5C4), (6, 0xAAAA), (7, 0xBBBB)] = true := by decide

/-- R180; vectors 2.8, H16. -/
theorem test_ds_read2st64_b64 :
    runs 0x04000001D9E00200 .lds [(1, 0x100)]
      [(0x100, 0xB3A29180), (0x104, 0xF7E6D5C4), (0x500, 0xAAAA), (0x504, 0xBBBB)] [(0x100, 0xB3A29180), (0x104, 0xF7E6D5C4), (0x500, 0xAAAA), (0x504, 0xBBBB)] [(4, 0xB3A29180), (5, 0xF7E6D5C4), (6, 0xAAAA), (7, 0xBBBB)] = true := by decide

/-- R281; spec/95_test_vectors.md 2.8, H17: only `pc` moves. -/
theorem test_ds_nop :
    let s := { single 0xD8500000 .lds [] [] with m0Written := false }
    nextIs (step s) { s with pc := 8 } = true := by decide

/-! ## Several lanes (spec/95_test_vectors.md 2.6) -/

/-- L1: four lanes, four dwords. -/
theorem test_four_lanes :
    dwordsAfter (lanes [true, true, true, true]
      [(1, 0, 0x100), (1, 1, 0x104), (1, 2, 0x108), (1, 3, 0x10C), (2, 0, 1), (2, 1, 2), (2, 2, 3), (2, 3, 4)]
      [(0x100, 10), (0x104, 20), (0x108, 30), (0x10C, 0xFFFFFFFF)] [] 0x00000201D8000000)
      [0x100, 0x104, 0x108, 0x10C] = some [11, 22, 33, 3] := by decide

/-- L3: two lanes of a reverse subtract on one dword, under each of the two orders. -/
theorem test_lane_order :
    let s := lanes [true, true] [(1, 0, 0x100), (1, 1, 0x100), (2, 0, 10), (2, 1, 3)] [(0x100, 1)] [] 0x00000201D8080000
    dwordsAfter { s with laneTape := [0] } [0x100] = some [0xFFFFFFFA]
    ∧ dwordsAfter { s with laneTape := [1] } [0x100] = some [8] := by decide

/-- L10: an inactive lane reads nothing (lane 1 holds no value) and writes nothing (lane 3). -/
theorem test_inactive_lanes :
    let s := lanes [true, false, true, false]
      [(1, 0, 0x100), (1, 2, 0x104), (1, 3, 0x108), (2, 0, 1), (2, 2, 2), (2, 3, 4)]
      [(0x100, 0xF0), (0x104, 0xF0), (0x108, 0xF0)] [] 0x00000201D8280000
    dwordsAfter { s with vgprUnwritten := [vgprKey 1 1, vgprKey 1 2] } [0x100, 0x104, 0x108]
      = some [0xF1, 0xF2, 0xF0] := by decide

/-- L11: no active lane, `M0` and the registers holding no value: only `pc` moves. -/
theorem test_no_active_lane :
    let s := { lanes [] [] [] [] 0x00000201D8000000 with m0Written := false, vgprUnwritten := [1, 2] }
    nextIs (step s) { s with pc := 8 } = true := by decide

/-- L12: two lanes of `DS_WRITE2_B32` that meet on one dword. -/
theorem test_crossing_stores :
    let s := lanes [true, true]
      [(1, 0, 0x100), (1, 1, 0x104), (2, 0, 0xA0), (2, 1, 0xB0), (3, 0, 0xA1), (3, 1, 0xB1)] [] [] 0x00030201D8380100
    dwordsAfter { s with laneTape := [0] } [0x100, 0x104, 0x108] = some [0xA0, 0xB0, 0xB1]
    ∧ dwordsAfter { s with laneTape := [1] } [0x100, 0x104, 0x108] = some [0xA0, 0xA1, 0xB1] := by decide

/-! ## Abnormal outcomes and their order (spec/95_test_vectors.md 2.3, 2.7) -/

/-- X1, X15: `M0` first, in GDS too. -/
theorem test_unwritten_m0 :
    faultIs (step { single 0x00000201D8000000 .lds [(1, 0x100), (2, 1)] [] with m0Written := false })
      (.unwrittenRegister .m0) = true
    ∧ faultIs (step { single 0x00000201D8020000 .gds [(1, 0x100), (2, 1)] [] with m0Written := false })
      (.unwrittenRegister .m0) = true := by decide

/-- X2, X4, X5: `ADDR` before `VDATA0` before `VDATA1`; a field the class does not use is not read. -/
theorem test_unwritten_register :
    faultIs (step { single 0x00000201D8000000 .lds [] [] with vgprUnwritten := [1, 2] })
      (.unwrittenRegister (.vector 1 0)) = true
    ∧ faultIs (step { single 0x00030201D8300000 .lds [(1, 0), (2, 0)] [] with vgprUnwritten := [3] })
      (.unwrittenRegister (.vector 3 0)) = true
    ∧ dwordsAfter { single 0x00030201D8000000 .lds [(1, 0x100), (2, 1)] [(0x100, 6)] with vgprUnwritten := [3] }
      [0x100] = some [7] := by decide

/-- X9: an unwritten register of a later lane comes before an address out of range of an earlier one. -/
theorem test_unwritten_before_range :
    faultIs (step { lanes [true, true, true] [(1, 0, 0x10000)] [] [] 0x00000201D8000000 with
      vgprUnwritten := [vgprKey 2 2] }) (.unwrittenRegister (.vector 2 2)) = true := by decide

/-- X11, X12, X13, X14: the lowest failing lane; the second address; no 32-bit address; `M0` below `LDS_SIZE`. -/
theorem test_out_of_range :
    faultIs (step (lanes [true, true, true, true] [(1, 1, 0x20000), (1, 3, 0x10000)] [] [] 0x00000201D8000000))
      (.dsOutOfRange .lds 1 0x20000 (some 0x20000) 4 0x10000) = true
    ∧ faultIs (step (single 0x00030201D8380100 .lds [(1, 0xFFFC)] []))
      (.dsOutOfRange .lds 0 0x10000 (some 0x10000) 4 0x10000) = true
    ∧ faultIs (step (single 0x00000201D834FFFF .lds [(1, 0xFFFFFFFF)] []))
      (.dsOutOfRange .lds 0 0x10000FFFE none 4 0x10000) = true
    ∧ faultIs (step { single 0x00000201D8000000 .lds [(1, 0x80)] [] with m0 := 0x80 })
      (.dsOutOfRange .lds 0 0x80 (some 0x80) 4 0x80) = true := by decide

/-- A8, A11, A23, A27, A28: the last dword `M0` admits, a dword partly inside, no wrap at 2^32, and `GDS_SIZE` without
`M0`. -/
theorem test_admission :
    dwordsAfter { single 0x00000201D8340000 .lds [(1, 3), (2, 0x11223344)] [] with m0 := 4 } [0] = some [0x11223344]
    ∧ faultIs (step { single 0x00000201D8340000 .lds [(1, 4)] [] with m0 := 7 })
      (.dsOutOfRange .lds 0 4 (some 4) 4 7) = true
    ∧ faultIs (step (single 0x00000201D8340001 .lds [(1, 0xFFFFFFFF)] []))
      (.dsOutOfRange .lds 0 0x100000000 none 4 0x10000) = true
    ∧ nextIs (step { single 0x00000201D8360000 .gds [(1, 0xFFC)] [] with m0 := 0 })
      { single 0x00000201D8360000 .gds [(1, 0xFFC)] [] with m0 := 0, pc := 8, laneTape := [], issued := 1 } = true
    ∧ faultIs (step (single 0x00000201D8360000 .gds [(1, 0x1000)] []))
      (.dsOutOfRange .gds 0 0x1000 (some 0x1000) 4 0x1000) = true := by decide

/-- The state with another version and `ADMIT_GK`. -/
def launched (s : State) (arch : Arch) (admitGk : Bool) : State :=
  { s with params := { s.params with arch := arch, admitGk := admitGk } }

/-- X6, X7, X8, X16 to X19: decode first, then the tier, before any register is read. -/
theorem test_illegal_and_refused :
    faultIs (step (launched (single 0xD8580000 .lds [] []) .gcn10 false))
      (.illegalEncoding 0 0xD8580000 .unassignedOpcode) = true
    ∧ refusedIs (step { launched (single 0x04000001D8D80000 .lds [] []) .gcn10 false with m0Written := false })
      (.refused 0 .dsReadB32 .undescribed) = true
    ∧ refusedIs (step (launched (single 0x00000201D8540000 .lds [] []) .gcn12 true))
      (.refused 0 .dsAddF32 .undescribed) = true
    ∧ faultIs (step (single 0x00000201D8010000 .lds [] [])) (.illegalEncoding 0 0x00000201D8010000 .bit16) = true
    ∧ faultIs (step (single 0xBF810000 .lds [] [])) (.illegalEncoding 0 0xBF810000 .notDs) = true
    ∧ faultIs (step (launched (single 0xD8500000 .lds [] []) .gcn10 true))
      (.illegalEncoding 0 0xD8500000 .unassignedOpcode) = true
    ∧ refusedIs (step (launched (single 0xD8500000 .lds [] []) .gcn11 false))
      (.refused 0 .dsNop .undescribed) = true := by decide

/-- R303, R305 and log entries 26, 27: of a register pair that holds no value the lower-numbered register is reported;
`undescribed` comes before `register_out_of_file`. -/
theorem test_chosen_precedence :
    faultIs (step { single 0x00000201D9000000 .lds [(1, 0)] [] with vgprUnwritten := [2, 3] })
      (.unwrittenRegister (.vector 2 0)) = true
    ∧ refusedIs (step (launched (single 0xFF000001D9D80000 .lds [] []) .gcn11 false))
      (.refused 0 .dsReadB64 .undescribed) = true
    ∧ refusedIs (step (launched (single 0xFF000001D9D80000 .lds [] []) .gcn11 true))
      (.refused 0 .dsReadB64 .registerOutOfFile) = true := by decide

/-- The codes of R300. -/
theorem test_codes :
    (Fault.illegalEncoding 0 0 .notDs).code = 1 ∧ (Refusal.refused 0 .dsNop .undescribed).code = some 2
    ∧ (Fault.unwrittenRegister .m0).code = 3 ∧ (Fault.dsOutOfRange .lds 0 0 none 4 0).code = 4
    ∧ Refusal.runEnded.code = none := by decide

/-! ## Witnesses: states and operands that meet the hypotheses of the statements -/

/-- The fields of the witnesses: `OFFSET0 = 1`, `OFFSET1 = 2`, `ADDR = v1`, `VDATA0 = v2`, `VDATA1 = v6`, and a `VDST`
whose four registers end at `v255`. -/
def wf (gds : Bool) : DsFields := ⟨0x0201, gds, 1, 2, 6, 252⟩

/-- Lanes 0 and 2 active, each with all its accesses apart from the other's. -/
def ws : State := lanes [true, false, true] [(1, 0, 0), (1, 2, 0x8000)] [] [] 0xD8500000

/-- The same with a GDS of 64 KiB, and an `M0` whose value a GDS access does not ask for. -/
def wsGds : State := { ws with params := { ws.params with gdsSize := 0x10000 }, m0 := 0 }

/-- `Ready`, in both spaces, for every instruction that accesses memory. -/
theorem witness_ready : ∀ sh ∈ memoryShapes, Ready sh (wf false) ws ∧ Ready sh (wf true) wsGds := by
  have a1 : ∀ sh ∈ memoryShapes, ∀ r ∈ sh.dest (wf false) :: sh.sources (wf false),
    r.count = 0 ∨ r.first + r.count ≤ min ws.params.vgprAlloc 256 := by decide
  have b1 : ∀ sh ∈ memoryShapes, ∀ r ∈ sh.dest (wf true) :: sh.sources (wf true),
    r.count = 0 ∨ r.first + r.count ≤ min wsGds.params.vgprAlloc 256 := by decide
  have a2 : ∀ sh ∈ memoryShapes, ∀ l ∈ ws.activeLanes, ∀ r ∈ sh.sources (wf false), ∀ i < r.count,
    ws.holdsValue (r.first + i) l = true := by decide
  have b2 : ∀ sh ∈ memoryShapes, ∀ l ∈ wsGds.activeLanes, ∀ r ∈ sh.sources (wf true), ∀ i < r.count,
    wsGds.holdsValue (r.first + i) l = true := by decide
  have a3 : ∀ sh ∈ memoryShapes, ∀ l ∈ ws.activeLanes, ∀ a ∈ sh.accesses (wf false) ws l,
    a.sum < 2 ^ 32 ∧ a.ea + a.width ≤ ws.limit (space (wf false)) := by decide
  have b3 : ∀ sh ∈ memoryShapes, ∀ l ∈ wsGds.activeLanes, ∀ a ∈ sh.accesses (wf true) wsGds l,
    a.sum < 2 ^ 32 ∧ a.ea + a.width ≤ wsGds.limit (space (wf true)) := by decide
  exact fun sh hs => ⟨⟨fun _ => rfl, a1 sh hs, fun _ => rfl, a2 sh hs, a3 sh hs⟩,
    ⟨fun _ => rfl, b1 sh hs, fun _ => rfl, b2 sh hs, b3 sh hs⟩⟩

/-- `Alone`, with two active lanes, for every instruction that accesses memory. -/
theorem witness_alone : ∀ sh ∈ memoryShapes, ∀ l ∈ ws.activeLanes, Alone sh (wf false) ws l := by
  unfold Alone Apart; decide

/-- Two different addresses and, with equal offsets, the same address twice: both clauses of the two-address
statements (R58). -/
theorem witness_two_addresses :
    (access0 4 4 (wf false) ws 0).ea ≠ (access1 4 4 (wf false) ws 0).ea
    ∧ (access0 512 8 (wf false) ws 0).ea ≠ (access1 512 8 (wf false) ws 0).ea
    ∧ (access0 4 4 ⟨0xFFFF, false, 1, 2, 6, 252⟩ ws 2).ea = (access1 4 4 ⟨0xFFFF, false, 1, 2, 6, 252⟩ ws 2).ea
    ∧ (access0 512 8 ⟨0, false, 1, 2, 6, 252⟩ ws 2).ea = (access1 512 8 ⟨0, false, 1, 2, 6, 252⟩ ws 2).ea := by decide

/-- Lanes 0 and 1 on the same last dword of LDS (`EA + 4 = LIMIT`), reached with the largest offset. -/
def wsSame : State := lanes [true, true] [(1, 0, 0), (1, 1, 0), (2, 0, 10), (2, 1, 3)] [(0xFFFC, 1)] [] 0xD8500000

/-- The fields for it: `OFFSET = 0xFFFF`. -/
def wfSame : DsFields := ⟨0xFFFF, false, 1, 2, 3, 0⟩

/-- Two lanes on one dword, for the described atomics and store: the hypotheses of the statements about lane order. -/
theorem witness_same_dword :
    Ready (rmwShape .dsRsubU32 false 32 false false) wfSame wsSame
    ∧ Ready (rmwShape .dsAddU32 false 32 false false) wfSame wsSame
    ∧ Ready (storeShape .dsWriteB32 false 1 4) wfSame wsSame
    ∧ wsSame.activeLanes = [0, 1] ∧ (∀ l ∈ wsSame.activeLanes, (access 4 wfSame wsSame l).ea = 0xFFFC) := by
  have a1 : ∀ r ∈ [noDst, addrRange wfSame, data0Range wfSame 1],
    r.count = 0 ∨ r.first + r.count ≤ min wsSame.params.vgprAlloc 256 := by decide
  have a2 : ∀ l ∈ wsSame.activeLanes, ∀ r ∈ [addrRange wfSame, data0Range wfSame 1], ∀ i < r.count,
    wsSame.holdsValue (r.first + i) l = true := by decide
  have a3 : ∀ l ∈ wsSame.activeLanes, ∀ a ∈ [access 4 wfSame wsSame l],
    a.sum < 2 ^ 32 ∧ a.ea + a.width ≤ wsSame.limit (space wfSame) := by decide
  exact ⟨⟨fun _ => rfl, a1, fun _ => rfl, a2, a3⟩, ⟨fun _ => rfl, a1, fun _ => rfl, a2, a3⟩,
    ⟨fun _ => rfl, a1, fun _ => rfl, a2, a3⟩, by decide, by decide⟩

/-- Lanes 0 and 2 with one address: lanes that collide, whatever the instruction. -/
def wsCollide : State := lanes [true, false, true] [(1, 0, 0x8000), (1, 2, 0x8000)] [] [] 0xD8500000

/-- Colliding lanes: `Ready` for every operation, an order that is not the lanes' own, and accesses that meet. -/
theorem witness_colliding_lanes : ∀ o ∈ memoryOperations, Ready o.shape (wf false) wsCollide
    ∧ [2, 0].Perm wsCollide.activeLanes
    ∧ o.shape.accesses (wf false) wsCollide 0 = o.shape.accesses (wf false) wsCollide 2 := by
  have a1 : ∀ o ∈ memoryOperations, ∀ r ∈ o.shape.dest (wf false) :: o.shape.sources (wf false),
    r.count = 0 ∨ r.first + r.count ≤ min wsCollide.params.vgprAlloc 256 := by decide
  have a2 : ∀ o ∈ memoryOperations, ∀ l ∈ wsCollide.activeLanes, ∀ r ∈ o.shape.sources (wf false), ∀ i < r.count,
    wsCollide.holdsValue (r.first + i) l = true := by decide
  have a3 : ∀ o ∈ memoryOperations, ∀ l ∈ wsCollide.activeLanes, ∀ a ∈ o.shape.accesses (wf false) wsCollide l,
    a.sum < 2 ^ 32 ∧ a.ea + a.width ≤ wsCollide.limit (space (wf false)) := by decide
  have a4 : ∀ o ∈ memoryOperations,
    o.shape.accesses (wf false) wsCollide 0 = o.shape.accesses (wf false) wsCollide 2 := by decide
  exact fun o ho => ⟨⟨fun _ => rfl, a1 o ho, fun _ => rfl, a2 o ho, a3 o ho⟩, by decide, a4 o ho⟩

/-- One active lane: the hypotheses of the statement about applying an instruction twice. -/
theorem witness_one_lane :
    Ready (rmwShape .dsXorB32 false 32 false false) wfSame { wsSame with active := [true] }
    ∧ ({ wsSame with active := [true] } : State).activeLanes = [0] := by
  refine ⟨⟨fun _ => rfl, ?_, fun _ => rfl, ?_, ?_⟩, by decide⟩
  · have h : ∀ r ∈ [noDst, addrRange wfSame, data0Range wfSame 1],
      r.count = 0 ∨ r.first + r.count ≤ min wsSame.params.vgprAlloc 256 := by decide
    exact h
  · have h : ∀ l ∈ ({ wsSame with active := [true] } : State).activeLanes, ∀ r ∈ [addrRange wfSame, data0Range wfSame 1],
      ∀ i < r.count, ({ wsSame with active := [true] } : State).holdsValue (r.first + i) l = true := by decide
    exact h
  · have h : ∀ l ∈ ({ wsSame with active := [true] } : State).activeLanes, ∀ a ∈ [access 4 wfSame wsSame l],
      a.sum < 2 ^ 32 ∧ a.ea + a.width ≤ wsSame.limit (space wfSame) := by decide
    exact h

/-- Equal offsets, so that both addresses of a two-address instruction are the same (R58). -/
def wfEqual : DsFields := ⟨0x0101, false, 1, 2, 6, 252⟩

/-- Equal addresses: `Ready` and `Alone` for every instruction that accesses memory, and both active lanes. -/
theorem witness_equal_addresses : ∀ sh ∈ memoryShapes, Ready sh wfEqual ws
    ∧ (∀ l ∈ ws.activeLanes, Alone sh wfEqual ws l) ∧ 2 ∈ ws.activeLanes ∧ wfEqual.offset0 = wfEqual.offset1 := by
  have a1 : ∀ sh ∈ memoryShapes, ∀ r ∈ sh.dest wfEqual :: sh.sources wfEqual,
    r.count = 0 ∨ r.first + r.count ≤ min ws.params.vgprAlloc 256 := by decide
  have a2 : ∀ sh ∈ memoryShapes, ∀ l ∈ ws.activeLanes, ∀ r ∈ sh.sources wfEqual, ∀ i < r.count,
    ws.holdsValue (r.first + i) l = true := by decide
  have a3 : ∀ sh ∈ memoryShapes, ∀ l ∈ ws.activeLanes, ∀ a ∈ sh.accesses wfEqual ws l,
    a.sum < 2 ^ 32 ∧ a.ea + a.width ≤ ws.limit (space wfEqual) := by decide
  have a4 : ∀ sh ∈ memoryShapes, ∀ l ∈ ws.activeLanes, Alone sh wfEqual ws l := by
    unfold Alone Apart; decide
  exact fun sh hs => ⟨⟨fun _ => rfl, a1 sh hs, fun _ => rfl, a2 sh hs, a3 sh hs⟩, a4 sh hs, by decide, by decide⟩

theorem next_of_nextIs {o : Result} {t : State} (h : nextIs o t = true) : o = .next t := by
  unfold nextIs at h
  split at h
  · rw [of_decide_eq_true h]
  · cases h
  · cases h

/-- A decoded word with unused fields zero and one with bits in them (R80). -/
theorem witness_decoded :
    decode .sourceTable .gcn10 0x00000201D8000005 = .ds (.dsAddU32 ⟨5, false, 1, 2, 0, 0⟩)
    ∧ (Instr.dsAddU32 ⟨5, false, 1, 2, 0, 0⟩).unusedFieldsZero = true
    ∧ decode .sourceTable .gcn10 0xBBAA0201D8000005 = .ds (.dsAddU32 ⟨5, false, 1, 2, 170, 187⟩)
    ∧ (Instr.dsAddU32 ⟨5, false, 1, 2, 170, 187⟩).unusedFieldsZero = false := by decide

/-- R84: the lowest and the highest opcode, and words that do and do not match. -/
theorem witness_match :
    opcodeOf .gcn10 .dsAddU32 = some 0 ∧ opcodeOf .gcn12 .dsReadB128 = some 255
    ∧ (0xFFFFFFFFDBFEFFFF#64).getLsbD 16 = false ∧ 0xFFFFFFFFDBFEFFFF &&& opcodeMask = opcodeMatch 255
    ∧ 0xFFFFFFFFDBFEFFFF &&& opcodeMask ≠ opcodeMatch 0 := by decide

/-- R79, R83: fetched words with bit 16 set, with an opcode no version has, and with one the version lacks. -/
theorem witness_fetched :
    (single 0xD8010000 .lds [] []).fetch = .word 0xD8010000#64 ∧ encodingField 0xD8010000 = 0b110110#6
    ∧ (0xD8010000#64).getLsbD 16 = true
    ∧ (single 0xD8580000 .lds [] []).fetch = .word 0xD8580000#64 ∧ encodingField 0xD8580000 = 0b110110#6
    ∧ (0xD8580000#64).getLsbD 16 = false ∧ (opcodeField 0xD8580000).toNat ∈ unlistedOpcodes
    ∧ encodingField 0xD8500000 = 0b110110#6 ∧ (0xD8500000#64).getLsbD 16 = false
    ∧ (launched (single 0xD8500000 .lds [] []) .gcn10 true).fetch = .word 0xD8500000#64
    ∧ (opcodeField 0xD8500000).toNat ∈ gapsOn .gcn10 := by decide

/-- R82: a mnemonic every version has at one opcode. -/
theorem witness_versions : Mnemonic.dsAddU32.presentOn .gcn10 = true
    ∧ Mnemonic.dsAddU32 ∉ ([.dsGwsInit, .dsGwsSemaV, .dsGwsSemaBr, .dsGwsSemaP, .dsGwsBarrier, .dsSwizzleB32, .dsConsume,
        .dsAppend, .dsOrderedCount, .dsWriteSrc2B64] : List Mnemonic) := by decide

/-- A word in the program that decodes, and two that do not. -/
theorem witness_program_words :
    AtProgramWord (single 0x00000201D8000005 .lds [] [])
    ∧ HoldsWord (single 0x00000201D8000005 .lds [] []).imem 0 0x00000201D8000005
    ∧ decode .sourceTable .gcn11 0x00000201D8000005 = .ds (.dsAddU32 ⟨5, false, 1, 2, 0, 0⟩)
    ∧ AtProgramWord (single 0xBF810000 .lds [] []) ∧ AtProgramWord (single 0xD8580000 .lds [] [])
    ∧ HoldsWord (single 0xBF810000 .lds [] []).imem 0 0xBF810000
    ∧ decode .sourceTable .gcn11 0xBF810000 = .notDs
    ∧ HoldsWord (single 0xD8580000 .lds [] []).imem 0 0xD8580000
    ∧ decode .sourceTable .gcn11 0xD8580000 = .illegal .unassignedOpcode := by
  unfold AtProgramWord HoldsWord; decide

/-- Runs of no step and of the program's one step. -/
theorem witness_run :
    let s := single 0xD8500000 .lds [] []
    s.pc = s.progStart ∧ Host.Core.run core 0 s = .next s ∧ ¬ s.ended
    ∧ Host.Core.run core 1 s = .next { s with pc := 8 } ∧ ({ s with pc := 8 } : State).ended := by
  have h : core.step (single 0xD8500000 .lds [] []) = .next { single 0xD8500000 .lds [] [] with pc := 8 } :=
    next_of_nextIs (by decide)
  refine ⟨by decide, rfl, by unfold State.ended; decide, ?_, by unfold State.ended; decide⟩
  simp only [Host.Core.run, h]

/-- A state that meets the invariant, with something in every part of it, and whose step completes; so does `exec`. -/
theorem witness_invariant :
    let s := single 0x04000201D8800000 .lds [(1, 0x100), (2, 2)] [(0x100, 5)]
    let t := (({ s with lds := memWrite s.lds 0x100 4 7 } : State).setVreg 4 0 5)
    s.Inv ∧ step s = .next { t with pc := 8, laneTape := [], issued := 1 }
    ∧ exec (.dsAddRtnU32 ⟨0, false, 1, 2, 0, 4⟩) s = .next { t with pc := 8, laneTape := [], issued := 1 }
    ∧ 1 ∉ s.activeLanes ∧ s.holdsValue 4 0 = true := by
  refine ⟨⟨by decide, by decide, by decide, ?_, ?_, by decide, ?_, by decide, by decide, by decide⟩,
    next_of_nextIs (by decide), next_of_nextIs (by decide), by decide, by decide⟩
  all_goals unfold KeysBelow; decide

/-- The space an instruction does not select (R45). -/
theorem witness_other_space : Space.gds ≠ space (wf false) ∧ Space.lds ≠ space (wf true) := by decide

/-- An instruction whose result does not depend on the order completes with two lanes on one dword (R59 item 2). -/
theorem witness_order_free : ∃ t, exec (.dsAddU32 wfSame) wsSame = .next t :=
  ⟨{ wsSame with lds := memWrite [] 0xFFFC 4 14, pc := 8, laneTape := [], issued := 1 }, next_of_nextIs (by decide)⟩

/-- R303 item 1: `ADMIT_GK` false. -/
theorem witness_not_admitted : (launched ws .gcn11 false).params.admitGk = false
    ∧ ws.params.admitGk = true := by decide

/-- A register at `VGPR_ALLOC` and a run past `v255` (R25, R27). -/
theorem witness_out_of_file :
    (∃ r ∈ [addrRange (wf false)], r.count ≠ 0 ∧ min ({ ws.params with vgprAlloc := 1 } : Params).vgprAlloc 256
      < r.first + r.count)
    ∧ ∃ r ∈ [dstRange ⟨0, false, 1, 2, 6, 255⟩ 2], r.count ≠ 0 ∧ min ws.params.vgprAlloc 256 < r.first + r.count := by
  decide

/-- The hypotheses of the statements about the order of the stops, for every instruction that accesses memory: with
`M0` holding no value, with a register holding none, with a limit in the way; and those of R31's, with no lane active. -/
theorem witness_executes : ∀ sh ∈ memoryShapes,
    Executes sh (wf false) { ws with m0Written := false } ∧ Executes sh (wf true) { wsGds with m0Written := false }
    ∧ Executes sh (wf false) { ws with vgprUnwritten := [vgprKey 2 6] }
    ∧ Executes sh (wf false) { ws with m0 := 0x8007 + 4 }
    ∧ ({ ws with active := [] } : State).activeLanes = []
    ∧ (sh.gk = true → ({ ws with active := [] } : State).params.admitGk = true)
    ∧ ∀ r ∈ sh.dest (wf false) :: sh.sources (wf false),
      r.count = 0 ∨ r.first + r.count ≤ min ({ ws with active := [] } : State).params.vgprAlloc 256 := fun sh hs =>
  have h := witness_ready sh hs
  ⟨⟨h.1.reading, h.1.registers, by decide⟩, ⟨h.2.reading, h.2.registers, by decide⟩,
    ⟨h.1.reading, h.1.registers, by decide⟩, ⟨h.1.reading, h.1.registers, by decide⟩, by decide,
    h.1.reading, h.1.registers⟩

/-- The last lane's last source holds no value, everything before it does (R305 item 4). -/
theorem witness_unwritten :
    let s := { ws with vgprUnwritten := [vgprKey 2 6] }
    let sh := rmwShape .dsMskorB32 false 32 true false
    s.activeLanes = [0] ++ 2 :: [] ∧ sourceRegisters sh (wf false) = [1, 2] ++ 6 :: []
    ∧ (∀ k ∈ [0], ∀ q ∈ sourceRegisters sh (wf false), s.holdsValue q k = true)
    ∧ (∀ q ∈ [1, 2], s.holdsValue q 2 = true) ∧ s.holdsValue 6 2 = false
    ∧ ({ ws with m0Written := false } : State).m0Written = false := by decide

/-- The last lane's second access is one byte too far, everything before it is admitted (R305 item 5); in LDS under
`fault`, and in GDS. -/
theorem witness_out_of_range :
    let f := wf false
    let s := { ws with m0 := 0x8007 + 4 }
    let sh := store2Shape .dsWrite2B32 false 32 4
    s.activeLanes = [0] ++ 2 :: [] ∧ sh.accesses f s 2 = [access0 4 4 f s 2] ++ access1 4 4 f s 2 :: []
    ∧ (∀ k ∈ [0], ∀ b ∈ sh.accesses f s k, Admitted s .lds b)
    ∧ (∀ b ∈ [access0 4 4 f s 2], Admitted s .lds b) ∧ ¬ Admitted s .lds (access1 4 4 f s 2)
    ∧ Admitted { s with m0 := 0x8008 + 4 } .lds (access1 4 4 f s 2)
    ∧ s.params.oorPolicy = .fault ∧ space (wf true) = .gds := by
  decide

/-- `zero_drop` with an LDS that ends after the first access of lane 2 of every two-address instruction. -/
def wsDrop : State := { ws with params := { ws.params with oorPolicy := .zeroDrop, ldsSize := 0x820C } }

/-- Its fields: `OFFSET0 = 1`, `OFFSET1 = 255`. -/
def wfDrop : DsFields := ⟨0xFF01, false, 1, 2, 6, 252⟩

/-- `zero_drop`: the hypotheses for every instruction that accesses memory, with an access of lane 0 that is admitted and
one of lane 2 that is not; of `DS_READ2_B32`'s two accesses of lane 2 the first is admitted (R53, log entry 11). -/
theorem witness_zero_drop :
    wsDrop.params.oorPolicy = .zeroDrop ∧ wfDrop.gds = false ∧ wsDrop.m0Written = true
    ∧ (∀ o ∈ memoryOperations, Executes o.shape wfDrop wsDrop
      ∧ ∀ l ∈ wsDrop.activeLanes, ∀ r ∈ sourceRegisters o.shape wfDrop, wsDrop.holdsValue r l = true)
    ∧ ¬ Admitted wsDrop .lds (access 4 wfDrop wsDrop 2)
    ∧ Admitted wsDrop .lds (access0 4 4 wfDrop wsDrop 2) ∧ ¬ Admitted wsDrop .lds (access1 4 4 wfDrop wsDrop 2)
    ∧ Admitted wsDrop .lds (access1 4 4 wfDrop wsDrop 0) := by
  have a1 : ∀ o ∈ memoryOperations, ∀ r ∈ o.shape.dest wfDrop :: o.shape.sources wfDrop,
    r.count = 0 ∨ r.first + r.count ≤ min wsDrop.params.vgprAlloc 256 := by decide
  have a2 : ∀ o ∈ memoryOperations, ∀ l ∈ wsDrop.activeLanes, ∀ r ∈ sourceRegisters o.shape wfDrop,
    wsDrop.holdsValue r l = true := by decide
  exact ⟨by decide, by decide, by decide, fun o ho => ⟨⟨fun _ => rfl, a1 o ho, by decide⟩, a2 o ho⟩, by decide,
    by decide, by decide, by decide⟩

/-- `zero_drop` in a step (R53, log entry 11): a read beyond the limit gives 0, a store beyond it is dropped,
and of `DS_READ2_B32`'s two accesses the admitted one is made. -/
theorem test_zero_drop :
    let s := single 0x04000001D8D80000 .lds [(1, 0x20000), (4, 9)] []
    let t := single 0x00000201D8340000 .lds [(1, 0x20000), (2, 9)] []
    let u := single 0x04000001D8DC0100 .lds [(1, 0xFFFC), (4, 9), (5, 9)] [(0xFFFC, 7)]
    let p := { s.params with oorPolicy := .zeroDrop }
    nextIs (step { s with params := p })
      (({ s with params := p, pc := 8, laneTape := [], issued := 1 } : State).setVreg 4 0 0) = true
    ∧ nextIs (step { t with params := p }) { t with params := p, pc := 8, laneTape := [], issued := 1 } = true
    ∧ nextIs (step { u with params := p })
      ((({ u with params := p, pc := 8, laneTape := [], issued := 1 } : State).setVreg 4 0 7).setVreg 5 0 0) = true := by
  decide

end Sys2Proof.Tests
end

/-! PROOFS of the statements about the state (spec/10_state.md): what a completed step does to it, and in which order the
checks of an instruction that accesses memory stop it. -/

/-! ## The plan behind each instruction -/

namespace Sys2Proof.Machine

/-- The forms of `Machine/Forms.lean`, read with the fields and the state of one execution. -/
inductive FormPlan (f : DsFields) (s : State) : LanePlan → Prop
  | rmw (w : Nat) (two rtn : Bool) (op : BitVec w → BitVec w → BitVec w → BitVec w) :
      FormPlan f s (rmwPlan w two rtn op f s)
  | store (k n : Nat) : FormPlan f s (storePlan k n f s)
  | store2 (w scale : Nat) : FormPlan f s (store2Plan w scale f s)
  | exchange2 (w scale : Nat) : FormPlan f s (exchange2Plan w scale f s)
  | load (k n : Nat) (ext : Nat → Nat) : FormPlan f s (loadPlan k n ext f s)
  | load2 (w scale : Nat) : FormPlan f s (load2Plan w scale f s)

theorem FormPlan.isLocal {f : DsFields} {s : State} {plan : LanePlan} (h : FormPlan f s plan) : plan.Local := by
  cases h with
  | rmw w two rtn op => exact rmwPlan_local w two rtn op f s
  | store k n => exact storePlan_local k n f s
  | store2 w scale => exact store2Plan_local w scale f s
  | exchange2 w scale => exact exchange2Plan_local w scale f s
  | load k n ext => exact loadPlan_local k n ext f s
  | load2 w scale => exact load2Plan_local w scale f s

/-- `runGkPlan` for a reading, `runPlan` for a described instruction. -/
def runPlanOf (gk : Bool) (m : Mnemonic) (sp : Space) (plan : LanePlan) (s : State) : Result :=
  if gk then runGkPlan m sp plan s else runPlan m sp plan s

/-- Where the reading is admitted, and for every described instruction, the plan runs (R303 item 1). -/
theorem runPlanOf_admitted {gk : Bool} {s : State} (h : gk = true → s.params.admitGk = true) (m : Mnemonic) (sp : Space)
    (plan : LanePlan) : runPlanOf gk m sp plan s = runPlan m sp plan s := by
  cases gk with
  | false => rfl
  | true => simp [runPlanOf, runGkPlan, h rfl]

/-- A next state comes from the plan itself, whether or not it is a reading's. -/
theorem runPlanOf_next {gk : Bool} {m : Mnemonic} {sp : Space} {plan : LanePlan} {s t : State}
    (h : runPlanOf gk m sp plan s = .next t) : runPlan m sp plan s = .next t := by
  by_cases hg : gk = true → s.params.admitGk = true
  · rwa [runPlanOf_admitted hg] at h
  · obtain ⟨rfl, hadm⟩ := Classical.not_imp.1 hg
    simp [runPlanOf, runGkPlan, hadm, undescribed] at h

end Sys2Proof.Machine

namespace Sys2Proof.Claims

open Sys2Proof.Machine

/-- `plan` is what the instruction of a shape runs: a form with the shape's operands and accesses. -/
structure Shape.Carries (sh : Shape) (plan : DsFields → State → LanePlan) : Prop where
  form : ∀ f s, FormPlan f s (plan f s)
  sources : ∀ f s, (plan f s).sources = sh.sources f
  dest : ∀ f s, (plan f s).dest = sh.dest f
  accesses : ∀ f s, (plan f s).accesses = sh.accesses f s
  runs : ∀ f s, exec (sh.instr f) s = runPlanOf sh.gk (sh.instr f).mnemonic (space f) (plan f s) s

/-- The instruction of an operation runs a plan of that operation's shape. -/
def Operation.Planned (o : Operation) : Prop := ∃ plan, o.shape.Carries plan

section
variable {instr : DsFields → Instr} {gk two rtn : Bool} {w scale k n : Nat}

/-! One lemma per form; its last premise is the instruction's arm of `exec`, which holds by unfolding. -/

theorem rmw_planned {g : BitVec w → BitVec w → BitVec w → BitVec w} (op : BitVec w → BitVec w → BitVec w → BitVec w)
    (h : ∀ f s, exec (instr f) s = runPlanOf gk (instr f).mnemonic (space f) (rmwPlan w two rtn op f s) s
      := by intros; rfl) : (rmwOperation w instr gk two rtn g).Planned :=
  ⟨rmwPlan w two rtn op, fun _ _ => .rmw .., fun _ _ => rfl, fun _ _ => rfl, fun _ _ => rfl, h⟩

theorem store_planned
    (h : ∀ f s, exec (instr f) s = runPlanOf gk (instr f).mnemonic (space f) (storePlan k n f s) s
      := by intros; rfl) : (storeOperation instr gk k n).Planned :=
  ⟨storePlan k n, fun _ _ => .store .., fun _ _ => rfl, fun _ _ => rfl, fun _ _ => rfl, h⟩

theorem store2_planned
    (h : ∀ f s, exec (instr f) s = runPlanOf gk (instr f).mnemonic (space f) (store2Plan w scale f s) s
      := by intros; rfl) : (store2Operation w instr gk scale).Planned :=
  ⟨store2Plan w scale, fun _ _ => .store2 .., fun _ _ => rfl, fun _ _ => rfl, fun _ _ => rfl, h⟩

theorem exchange2_planned
    (h : ∀ f s, exec (instr f) s = runPlanOf true (instr f).mnemonic (space f) (exchange2Plan w scale f s) s
      := by intros; rfl) : (exchange2Operation w instr scale).Planned :=
  ⟨exchange2Plan w scale, fun _ _ => .exchange2 .., fun _ _ => rfl, fun _ _ => rfl, fun _ _ => rfl, h⟩

theorem load_planned {ext2 : Nat → Nat} (ext : Nat → Nat)
    (h : ∀ f s, exec (instr f) s = runPlanOf true (instr f).mnemonic (space f) (loadPlan k n ext f s) s
      := by intros; rfl) : (loadOperation instr k n ext2).Planned :=
  ⟨loadPlan k n ext, fun _ _ => .load .., fun _ _ => rfl, fun _ _ => rfl, fun _ _ => rfl, h⟩

theorem load2_planned
    (h : ∀ f s, exec (instr f) s = runPlanOf true (instr f).mnemonic (space f) (load2Plan w scale f s) s
      := by intros; rfl) : (load2Operation w instr scale).Planned :=
  ⟨load2Plan w scale, fun _ _ => .load2 .., fun _ _ => rfl, fun _ _ => rfl, fun _ _ => rfl, h⟩

end

theorem atomicOperations32_planned : ∀ o ∈ atomicOperations32, o.Planned := by
  simp only [atomicOperations32, List.forall_mem_cons]
  exact ⟨rmw_planned Alu.add, rmw_planned Alu.sub, rmw_planned Alu.rsub, rmw_planned Alu.inc, rmw_planned Alu.dec,
    rmw_planned Alu.minS, rmw_planned Alu.maxS, rmw_planned Alu.minU, rmw_planned Alu.maxU, rmw_planned Alu.and,
    rmw_planned Alu.or, rmw_planned Alu.xor, rmw_planned Alu.mskor, rmw_planned Alu.cmpst, List.forall_mem_nil _⟩

theorem atomicOperationsRtn32_planned : ∀ o ∈ atomicOperationsRtn32, o.Planned := by
  simp only [atomicOperationsRtn32, List.forall_mem_cons]
  exact ⟨rmw_planned Alu.add, rmw_planned Alu.sub, rmw_planned Alu.rsub, rmw_planned Alu.inc, rmw_planned Alu.dec,
    rmw_planned Alu.minS, rmw_planned Alu.maxS, rmw_planned Alu.minU, rmw_planned Alu.maxU, rmw_planned Alu.and,
    rmw_planned Alu.or, rmw_planned Alu.xor, rmw_planned Alu.mskor, rmw_planned Alu.wrxchg, exchange2_planned,
    exchange2_planned, rmw_planned Alu.cmpst, List.forall_mem_nil _⟩

theorem atomicOperations64_planned : ∀ o ∈ atomicOperations64, o.Planned := by
  simp only [atomicOperations64, List.forall_mem_cons]
  exact ⟨rmw_planned Alu.add, rmw_planned Alu.sub, rmw_planned Alu.rsub, rmw_planned Alu.inc, rmw_planned Alu.dec,
    rmw_planned Alu.minS, rmw_planned Alu.maxS, rmw_planned Alu.minU, rmw_planned Alu.maxU, rmw_planned Alu.and,
    rmw_planned Alu.or, rmw_planned Alu.xor, rmw_planned Alu.mskor, rmw_planned Alu.cmpst, List.forall_mem_nil _⟩

theorem atomicOperationsRtn64_planned : ∀ o ∈ atomicOperationsRtn64, o.Planned := by
  simp only [atomicOperationsRtn64, List.forall_mem_cons]
  exact ⟨rmw_planned Alu.add, rmw_planned Alu.sub, rmw_planned Alu.rsub, rmw_planned Alu.inc, rmw_planned Alu.dec,
    rmw_planned Alu.minS, rmw_planned Alu.maxS, rmw_planned Alu.minU, rmw_planned Alu.maxU, rmw_planned Alu.and,
    rmw_planned Alu.or, rmw_planned Alu.xor, rmw_planned Alu.mskor, rmw_planned Alu.wrxchg, exchange2_planned,
    exchange2_planned, rmw_planned Alu.cmpst, List.forall_mem_nil _⟩

theorem storeOperations_planned : ∀ o ∈ storeOperations, o.Planned := by
  simp only [storeOperations, List.forall_mem_cons]
  exact ⟨store_planned, store2_planned, store2_planned, store_planned, store_planned, store_planned, store2_planned,
    store2_planned, List.forall_mem_nil _⟩

theorem loadOperations_planned : ∀ o ∈ loadOperations, o.Planned := by
  simp only [loadOperations, List.forall_mem_cons]
  exact ⟨load_planned zeroExtend, load2_planned, load2_planned, load_planned (signExtend 8), load_planned zeroExtend,
    load_planned (signExtend 16), load_planned zeroExtend, load_planned zeroExtend, load2_planned, load2_planned,
    List.forall_mem_nil _⟩

/-- Each of the 80 instructions that access memory runs a plan of its shape. -/
theorem memoryShapes_carry (sh : Shape) (hsh : sh ∈ memoryShapes) : ∃ plan, sh.Carries plan := by
  obtain ⟨o, ho, rfl⟩ := List.mem_map.1 hsh
  simp only [memoryOperations, atomicOperations, List.mem_append] at ho
  rcases ho with ((((h | h) | h) | h) | h) | h
  · exact atomicOperations32_planned o h
  · exact atomicOperationsRtn32_planned o h
  · exact atomicOperations64_planned o h
  · exact atomicOperationsRtn64_planned o h
  · exact storeOperations_planned o h
  · exact loadOperations_planned o h

/-- The instruction of a shape is one mnemonic, with the fields it is given. -/
theorem memoryShapes_instr : ∀ sh ∈ memoryShapes, ∀ f g, sh.instr f = (sh.instr g).mnemonic.instr f := by
  intro sh hsh f g
  fin_cases hsh <;> rfl

/-- Every mnemonic is that of an instruction that accesses memory, is refused whatever the state, or is `DS_NOP`. -/
theorem mnemonic_cases (m : Mnemonic) :
    m ∈ memoryShapes.map (fun sh => (sh.instr ⟨0, false, 0, 0, 0, 0⟩).mnemonic) ∨ m ∈ refusedMnemonics ∨ m = .dsNop := by
  cases m <;> decide

/-- The 64 instructions of the tier `low` stop (R303 item 2). -/
theorem exec_refusedMnemonics : ∀ m ∈ refusedMnemonics, ∀ f s, exec (m.instr f) s = undescribed m s := by
  intro m hm f s
  fin_cases hm <;> rfl

/-- Everything an instruction that answers a next state can have done: only moved `pc`, or run a plan to its end. -/
theorem exec_next {i : Instr} {s t : State} (h : exec i s = .next t) :
    t = s.advance ∨ ∃ plan, FormPlan i.fields s plan ∧ plan.regsInFile s.params = true
      ∧ t = plan.commit (space i.fields) s := by
  obtain ⟨m, f, rfl⟩ : ∃ (m : Mnemonic) (f : DsFields), i = m.instr f := ⟨_, _, (instr_mnemonic_fields i).symm⟩
  rw [fields_instr]
  rcases mnemonic_cases m with hm | hm | rfl
  · obtain ⟨sh, hsh, rfl⟩ := List.mem_map.1 hm
    obtain ⟨plan, hplan⟩ := memoryShapes_carry sh hsh
    rw [← memoryShapes_instr sh hsh, hplan.runs] at h
    obtain ⟨hfile, ⟨-, ht⟩ | ⟨-, -, -, -, ht⟩⟩ := runPlan_next _ _ (runPlanOf_next h)
    · exact .inl ht
    · exact .inr ⟨plan f s, hplan.form f s, hfile, ht⟩
  · simp [exec_refusedMnemonics m hm, undescribed] at h
  · change execDsNop f s = .next t at h
    unfold execDsNop at h
    split at h
    · exact .inl (by simpa using h.symm)
    · simp [undescribed] at h

end Sys2Proof.Claims

/-! ## Rules for the state -/

namespace Sys2Proof.Machine

theorem SameLaunch.refl (s : State) : SameLaunch s s := ⟨rfl, rfl, rfl, rfl, rfl, rfl, rfl⟩

theorem SameLaunch.trans {s t u : State} (h : SameLaunch s t) (h2 : SameLaunch t u) : SameLaunch s u :=
  ⟨h2.params.trans h.params, h2.m0.trans h.m0, h2.m0Written.trans h.m0Written, h2.active.trans h.active,
    h2.imem.trans h.imem, h2.progStart.trans h.progStart, h2.progWords.trans h.progWords⟩

theorem SameLaunch.progEnd {s t : State} (h : SameLaunch s t) : t.progEnd = s.progEnd := by
  simp only [State.progEnd, h.progStart, h.progWords]

theorem SameLaunch.advance (s : State) : SameLaunch s s.advance := ⟨rfl, rfl, rfl, rfl, rfl, rfl, rfl⟩

/-- Writing a register takes no element's value away (R37). -/
theorem setVreg_holdsValue_mono (s : State) (r l : Nat) (x : Word) {r2 l2 : Nat} (h : s.holdsValue r2 l2 = true) :
    (s.setVreg r l x).holdsValue r2 l2 = true := by
  by_cases hk : vgprKey l2 r2 = vgprKey l r
  · simp [State.setVreg, State.holdsValue, hk]
  · rwa [setVreg_holdsValue_other s x hk]

theorem setVregs_holdsValue_mono (s : State) (r l : Nat) (xs : List Word) {r2 l2 : Nat}
    (h : s.holdsValue r2 l2 = true) : (s.setVregs r l xs).holdsValue r2 l2 = true := by
  induction xs generalizing s r with
  | nil => exact h
  | cons x rest ih => exact ih _ _ (setVreg_holdsValue_mono s r l x h)

theorem commit_holdsValue_mono (plan : LanePlan) (sp : Space) (s : State) {r l : Nat} (h : s.holdsValue r l = true) :
    (plan.commit sp s).holdsValue r l = true := by
  refine runLanes_keeps plan sp (P := fun t => t.holdsValue r l = true) s h fun t k _ ht => ?_
  exact setVregs_holdsValue_mono _ _ _ _ ((setMem_holdsValue ..).trans ht)

/-- A completed plan leaves the registers of a lane that is not active alone (R31). -/
theorem commit_inactive {plan : LanePlan} (hp : plan.Local) (sp : Space) {s : State}
    (hfile : plan.dest.inFile s.params = true) {r l : Nat} (hr : r < 256) (hl : l ∉ s.activeLanes) :
    (plan.commit sp s).vreg r l = s.vreg r l ∧ (plan.commit sp s).holdsValue r l = s.holdsValue r l :=
  runLanes_otherRegs hp hfile s r l hr fun h => hl h.1

theorem regsInFile_dest {plan : LanePlan} {p : Params} (h : plan.regsInFile p = true) : plan.dest.inFile p = true :=
  (Bool.and_eq_true_iff.1 h).2

/-! ## The invariant, operation by operation -/

/-- The size of a space in bytes (R29, R30). -/
def spaceSize (p : Params) (sp : Space) : Nat :=
  match sp with
  | .lds => p.ldsSize
  | .gds => p.gdsSize

/-- No access is admitted past the end of its space (R51, R52). -/
theorem limit_le_size (s : State) (sp : Space) : s.limit sp ≤ spaceSize s.params sp := by
  cases sp with
  | lds => exact min_le_right _ _
  | gds => exact le_refl _

/-- What the invariant asks of the memory of a space. -/
structure MemoryInv (p : Params) (sp : Space) (m : Memory) : Prop where
  wf : m.wf
  below : KeysBelow m (spaceSize p sp)

theorem State.Inv.mem {s : State} (h : s.Inv) (sp : Space) : MemoryInv s.params sp (s.mem sp) := by
  cases sp with
  | lds => exact ⟨h.ldsWf, h.ldsBelow⟩
  | gds => exact ⟨h.gdsWf, h.gdsBelow⟩

theorem storeAt_memoryInv (s : State) (sp : Space) (a : Access) (x : Nat) {m : Memory} (h : MemoryInv s.params sp m) :
    MemoryInv s.params sp (s.storeAt sp a x m) := by
  unfold State.storeAt
  split
  · rename_i hadm
    have hend := ((admits_iff s sp a).1 hadm).2.trans (limit_le_size s sp)
    exact ⟨memWrite_wf h.wf _ _ _, memWrite_keysBelow h.below hend _⟩
  · exact h

/-- One lane of any form leaves the selected memory canonical and within its size. -/
theorem FormPlan.effect_memoryInv {f : DsFields} {s : State} {plan : LanePlan} (hp : FormPlan f s plan) (l : Nat)
    {m : Memory} (h : MemoryInv s.params (space f) m) : MemoryInv s.params (space f) (plan.effect l m).1 := by
  cases hp with
  | rmw w two rtn op => exact storeAt_memoryInv _ _ _ _ h
  | store k n => exact storeAt_memoryInv _ _ _ _ h
  | store2 w scale => exact storeAt_memoryInv _ _ _ _ (storeAt_memoryInv _ _ _ _ h)
  | exchange2 w scale => exact storeAt_memoryInv _ _ _ _ (storeAt_memoryInv _ _ _ _ h)
  | load k n ext => exact h
  | load2 w scale => exact h

theorem State.Inv.setMem {s : State} (h : s.Inv) {sp : Space} {m : Memory} (hm : MemoryInv s.params sp m) :
    (s.setMem sp m).Inv := by
  cases sp with
  | lds => exact { h with ldsWf := hm.wf, ldsBelow := hm.below }
  | gds => exact { h with gdsWf := hm.wf, gdsBelow := hm.below }

theorem State.Inv.setVreg {s : State} (h : s.Inv) {r l : Nat} (hr : r < 256) (hl : l < s.params.waveSize) (x : Word) :
    (s.setVreg r l x).Inv :=
  have hkey : vgprKey l r < s.params.waveSize * 256 := by unfold vgprKey; omega
  { h with
    vgprWf := cellSet_wf h.vgprWf _ x
    vgprBelow := cellSet_keysBelow h.vgprBelow hkey x
    unwrittenRising := h.unwrittenRising.filter _ }

theorem State.Inv.setVregs {s : State} (h : s.Inv) {r l : Nat} (hl : l < s.params.waveSize) (xs : List Word)
    (hr : r + xs.length ≤ 256) : (s.setVregs r l xs).Inv := by
  induction xs generalizing s r with
  | nil => exact h
  | cons x rest ih =>
    simp only [List.length_cons] at hr
    exact ih (h.setVreg (by omega) hl x) hl (by omega)

/-- The dwords a lane returns fit into the registers from its destination on. -/
theorem effect_fits {plan : LanePlan} (hp : plan.Local) {p : Params} (hfile : plan.dest.inFile p = true) (l : Nat)
    (m : Memory) : (plan.effect l m).2 = [] ∨ plan.dest.first + (plan.effect l m).2.length ≤ 256 := by
  simp only [RegRange.inFile, Bool.or_eq_true, beq_iff_eq, decide_eq_true_eq] at hfile
  rw [← List.length_eq_zero_iff, hp.count]
  omega

theorem State.Inv.runLane {f : DsFields} {s t : State} {plan : LanePlan} (hp : FormPlan f s plan)
    (hfile : plan.dest.inFile s.params = true) {l : Nat} (hl : l < s.params.waveSize) (hpar : t.params = s.params)
    (h : t.Inv) : (plan.runLane (space f) t l).Inv := by
  have hmem : MemoryInv t.params (space f) (plan.effect l (t.mem (space f))).1 :=
    hpar ▸ hp.effect_memoryInv l (hpar ▸ h.mem (space f))
  rcases effect_fits hp.isLocal hfile l (t.mem (space f)) with hnil | hfit
  · rw [LanePlan.runLane, hnil]
    exact h.setMem hmem
  · exact (h.setMem hmem).setVregs (by rwa [setMem_params, hpar]) _ hfit

theorem State.Inv.runLanes {f : DsFields} {s : State} {plan : LanePlan} (hp : FormPlan f s plan)
    (hfile : plan.dest.inFile s.params = true) (h : s.Inv) : (plan.runLanes (space f) s).Inv := by
  refine (runLanes_keeps plan (space f) (P := fun t => t.Inv ∧ t.params = s.params) s ⟨h, rfl⟩ ?_).1
  rintro t l hl ⟨hinv, hpar⟩
  exact ⟨hinv.runLane hp hfile ((mem_activeLanes s l).1 hl).1 hpar, by simp [LanePlan.runLane, hpar]⟩

/-- `pc` stays at a word or just after the last one, because it was at a word (R32). -/
theorem State.Inv.advance {s : State} (h : s.Inv) (hpc : s.pc + 8 ≤ s.progEnd) : s.advance.Inv :=
  { h with
    pcInProgram := ⟨h.pcInProgram.1.trans (Nat.le_add_right ..), hpc⟩
    pcAtWord := by
      have := h.pcInProgram.1
      have := h.pcAtWord
      simp only [advance_pc, advance_progStart]
      omega }

theorem State.Inv.spendChoice {s : State} (h : s.Inv) : s.spendChoice.Inv := { h with }

theorem State.Inv.commit {f : DsFields} {s : State} {plan : LanePlan} (hp : FormPlan f s plan)
    (hfile : plan.dest.inFile s.params = true) (hpc : s.pc + 8 ≤ s.progEnd) (h : s.Inv) :
    (plan.commit (space f) s).Inv := by
  obtain ⟨hlaunch, hsame, -⟩ := runLanes_launch plan (space f) s
  exact ((h.runLanes hp hfile).advance (by rwa [hsame, hlaunch.progEnd])).spendChoice

/-! ## The step -/

theorem fetch_word {s : State} {w : InstrWord} (h : s.fetch = .word w) : Claims.AtProgramWord s := by
  unfold State.fetch at h
  split at h
  · cases h
  · split at h
    · assumption
    · cases h

/-- A step that completes is the `exec` of some instruction, from a word of the program. -/
theorem step_next {s t : State} (h : step s = .next t) : Claims.AtProgramWord s ∧ ∃ i, exec i s = .next t := by
  unfold step at h
  split at h
  · cases h
  · cases h
  · rename_i w hw
    split at h
    · exact ⟨fetch_word hw, _, h⟩
    · cases h
    · cases h

/-- At the normal end there is no next state (R326). -/
theorem step_ended {s : State} (h : s.ended) : step s = .refused .runEnded := by
  have hfetch : s.fetch = .ended := if_pos h
  simp [step, hfetch]

/-- A run that completes one step more is a step that completes and then the rest of the run. -/
theorem run_succ {k : Nat} {s u : State} (h : Host.Core.run core (k + 1) s = .next u) :
    ∃ t, step s = .next t ∧ Host.Core.run core k t = .next u := by
  simp only [Host.Core.run] at h
  split at h
  · exact ⟨_, ‹_›, h⟩
  · cases h
  · cases h

/-! ## The order of the checks -/

theorem inFile_iff (p : Params) (r : RegRange) :
    r.inFile p = true ↔ r.count = 0 ∨ r.first + r.count ≤ min p.vgprAlloc 256 := by
  simp only [RegRange.inFile, Bool.or_eq_true, beq_iff_eq, decide_eq_true_eq]

/-- Every register operand, the destination with them, is in the file (R25, R27). -/
theorem regsInFile_iff (p : Params) (plan : LanePlan) :
    plan.regsInFile p = true ↔
      ∀ r ∈ plan.dest :: plan.sources, r.count = 0 ∨ r.first + r.count ≤ min p.vgprAlloc 256 := by
  simp only [LanePlan.regsInFile, Bool.and_eq_true, List.all_eq_true, inFile_iff, List.forall_mem_cons, and_comm]

section
variable (m : Mnemonic) (sp : Space) {plan : LanePlan} {s : State}

/-- R303 item 3. -/
theorem runPlan_outOfFile (h : ¬ plan.regsInFile s.params = true) :
    runPlan m sp plan s = .refused (.refused s.pc m .registerOutOfFile) :=
  if_pos (Bool.eq_false_iff.2 h)

/-- R305 item 3. -/
theorem runPlan_unwrittenM0 (hfile : plan.regsInFile s.params = true) (ha : s.activeLanes ≠ [])
    (hm : s.m0Written = false) : runPlan m sp plan s = .fault (.unwrittenRegister .m0) := by
  simp [runPlan, hfile, ha, hm]

/-- R305 item 4. -/
theorem runPlan_unwritten (hfile : plan.regsInFile s.params = true) (ha : s.activeLanes ≠ [])
    (hm : s.m0Written = true) {r : RegName} (hr : plan.firstUnwritten s = some r) :
    runPlan m sp plan s = .fault (.unwrittenRegister r) := by
  simp [runPlan, hfile, ha, hm, hr]

end

theorem laneUnwritten_none {plan : LanePlan} {s : State} {l : Nat}
    (h : ∀ q ∈ plan.sources.flatMap (fun r => r.regs), s.holdsValue q l = true) : plan.laneUnwritten s l = none :=
  List.findSome?_eq_none_iff.2 fun q hq => if_pos (h q hq)

/-- The first register of a lane's sources that holds no value is the one reported. -/
theorem laneUnwritten_some {plan : LanePlan} {s : State} {l r : Nat} {regs regs2 : List Nat}
    (hsplit : plan.sources.flatMap (fun r => r.regs) = regs ++ r :: regs2)
    (hregs : ∀ q ∈ regs, s.holdsValue q l = true) (hr : s.holdsValue r l = false) :
    plan.laneUnwritten s l = some (.vector r l) := by
  have hbefore : regs.findSome? (fun q => if s.holdsValue q l then none else some (RegName.vector q l)) = none :=
    List.findSome?_eq_none_iff.2 fun q hq => if_pos (hregs q hq)
  simp [LanePlan.laneUnwritten, hsplit, List.findSome?_append, hbefore, hr]

/-- The lowest-numbered active lane with an unwritten source is the one reported. -/
theorem firstUnwritten_some {plan : LanePlan} {s : State} {l : Nat} {lanes lanes2 : List Nat} {r : RegName}
    (hsplit : s.activeLanes = lanes ++ l :: lanes2) (hlanes : ∀ k ∈ lanes, plan.laneUnwritten s k = none)
    (hl : plan.laneUnwritten s l = some r) : plan.firstUnwritten s = some r := by
  simp [LanePlan.firstUnwritten, hsplit, List.findSome?_append, List.findSome?_eq_none_iff.2 hlanes, hl]

end Sys2Proof.Machine

/-! ## The statements -/

namespace Sys2Proof.Proofs

open Sys2Proof.Machine Sys2Proof.Claims

/-- Settles O17: a next state is the old one with `pc` moved, or a committed plan. -/
theorem execKeepsTheLaunchAndAdvancesPc : Obligations.ExecKeepsTheLaunchAndAdvancesPc := by
  intro i s t h
  rcases exec_next h with rfl | ⟨plan, -, -, rfl⟩
  · exact ⟨SameLaunch.advance s, rfl⟩
  · exact commit_launch plan _ s

/-- Settles O18: a committed plan writes destination registers of active lanes alone. -/
theorem inactiveLanesKeepTheirRegisters : Obligations.InactiveLanesKeepTheirRegisters := by
  intro i s t r l h hl hr
  rcases exec_next h with rfl | ⟨plan, hform, hfile, rfl⟩
  · exact ⟨rfl, rfl⟩
  · exact commit_inactive hform.isLocal _ (regsInFile_dest hfile) hr hl

/-- Settles O19: registers are only ever written, and a write gives a value. -/
theorem writtenRegistersStayWritten : Obligations.WrittenRegistersStayWritten := by
  intro i s t r l h hval
  rcases exec_next h with rfl | ⟨plan, -, -, rfl⟩
  · exact hval
  · exact commit_holdsValue_mono plan _ s hval

/-- Settles O15: every store is empty at reset, and `pc` is the end of the empty program. -/
theorem resetMeetsTheInvariant : Obligations.ResetMeetsTheInvariant where
  ldsWf := by decide
  gdsWf := by decide
  imemWf := by decide
  ldsBelow := List.forall_mem_nil _
  gdsBelow := List.forall_mem_nil _
  vgprWf := by decide
  vgprBelow := List.forall_mem_nil _
  unwrittenRising := by decide
  pcInProgram := by decide
  pcAtWord := by decide

/-- Settles O16: an instruction either only moves `pc` or commits a plan, and both keep the invariant from a word of the
program. -/
theorem stepKeepsTheInvariant : Obligations.StepKeepsTheInvariant := by
  intro s t hinv h
  obtain ⟨⟨-, hpc⟩, i, hexec⟩ := step_next h
  rcases exec_next hexec with rfl | ⟨plan, hform, hfile, rfl⟩
  · exact hinv.advance hpc
  · exact hinv.commit hform (regsInFile_dest hfile) hpc

/-- What `k` completed steps do to the launch and to `pc`. -/
theorem run_launch_pc {k : Nat} {s u : State} (h : Host.Core.run core k s = .next u) :
    SameLaunch s u ∧ u.pc = s.pc + 8 * k := by
  induction k generalizing s with
  | zero =>
    cases h
    exact ⟨SameLaunch.refl _, rfl⟩
  | succ k ih =>
    obtain ⟨t, hstep, hrest⟩ := run_succ h
    obtain ⟨-, i, hexec⟩ := step_next hstep
    obtain ⟨hst, hpc⟩ := execKeepsTheLaunchAndAdvancesPc i s t hexec
    obtain ⟨htu, hpc2⟩ := ih hrest
    exact ⟨hst.trans htu, by omega⟩

/-- Settles O14: the end of the program is where `pc` has moved by 8 for each of its words. -/
theorem runEndsAfterTheProgramsWords : Obligations.RunEndsAfterTheProgramsWords := by
  intro s t k hstart h
  obtain ⟨hlaunch, hpc⟩ := run_launch_pc h
  refine ⟨hpc, ?_, step_ended⟩
  rw [State.ended, hlaunch.progEnd, State.progEnd]
  omega

/-- An instruction that accesses memory, once its reading is admitted, runs a plan with its shape's operands. -/
theorem exec_shape {sh : Shape} (hsh : sh ∈ memoryShapes) (f : DsFields) {s : State}
    (hgk : sh.gk = true → s.params.admitGk = true) :
    ∃ plan : LanePlan, plan.sources = sh.sources f ∧ plan.dest = sh.dest f
      ∧ exec (sh.instr f) s = runPlan (sh.instr f).mnemonic (space f) plan s := by
  obtain ⟨plan, hplan⟩ := memoryShapes_carry sh hsh
  exact ⟨plan f s, hplan.sources f s, hplan.dest f s, by rw [hplan.runs, runPlanOf_admitted hgk]⟩

/-- Settles O49: the register check is the first a plan makes. -/
theorem registerOutOfFileIsRefused : Obligations.RegisterOutOfFileIsRefused := by
  rintro sh hsh f s hgk ⟨r, hr, hcount, hout⟩
  obtain ⟨plan, hsrc, hdst, hexec⟩ := exec_shape hsh f hgk
  rw [hexec]
  refine runPlan_outOfFile _ _ fun hfile => ?_
  rw [regsInFile_iff, hsrc, hdst] at hfile
  have := hfile r hr
  omega

/-- Settles O50: after the register check a plan with no lane only moves `pc`. -/
theorem noActiveLaneOnlyAdvancesPc : Obligations.NoActiveLaneOnlyAdvancesPc := by
  intro sh hsh f s hgk hregs ha
  obtain ⟨plan, hsrc, hdst, hexec⟩ := exec_shape hsh f hgk
  rw [hexec]
  exact runPlan_noLane _ _ _ _ ((regsInFile_iff _ _).2 (by rwa [hsrc, hdst])) ha

/-- Settles O51: `M0` is the check after that of the lanes. -/
theorem unwrittenM0StopsFirst : Obligations.UnwrittenM0StopsFirst := by
  rintro sh hsh f s ⟨hgk, hregs, ha⟩ hm
  obtain ⟨plan, hsrc, hdst, hexec⟩ := exec_shape hsh f hgk
  rw [hexec]
  exact runPlan_unwrittenM0 _ _ ((regsInFile_iff _ _).2 (by rwa [hsrc, hdst])) ha hm

/-- Settles O52: the search over lanes and then over a lane's sources stops at the element named. -/
theorem unwrittenRegisterStopsNext : Obligations.UnwrittenRegisterStopsNext := by
  rintro sh hsh f s lanes lanes2 l regs regs2 r ⟨hgk, hregs, ha⟩ hm hlanes hsources hbefore hsame hr
  obtain ⟨plan, hsrc, hdst, hexec⟩ := exec_shape hsh f hgk
  rw [sourceRegisters, ← hsrc] at hsources hbefore
  have hfirst : plan.firstUnwritten s = some (.vector r l) :=
    firstUnwritten_some hlanes (fun k hk => laneUnwritten_none (hbefore k hk)) (laneUnwritten_some hsources hsame hr)
  rw [hexec]
  exact runPlan_unwritten _ _ ((regsInFile_iff _ _).2 (by rwa [hsrc, hdst])) ha hm hfirst

end Sys2Proof.Proofs

/-! PROOFS of the statements about memory (spec/20_memory.md): addresses and bytes, the space that is not selected, the
order in which the lanes take effect, and accesses that are not admitted. -/

namespace Sys2Proof.Machine

/-! ## Addresses (R47 to R50) -/

/-- Rounding down to a multiple of 4 clears the two low bits. -/
theorem ofNat_alignDown_four (x : Nat) :
    BitVec.ofNat 32 (alignDown 4 x) = BitVec.ofNat 32 x &&& 0xFFFFFFFC := by
  have hmask : ∀ i : Fin 32, (0xFFFFFFFC : BitVec 32).getLsbD i = decide (2 ≤ i.val) := by decide
  have hshift : alignDown 4 x = x >>> 2 <<< 2 := by
    rw [Nat.shiftLeft_eq, Nat.shiftRight_eq_div_pow]
    rfl
  refine BitVec.eq_of_getLsbD_eq fun i hi => ?_
  rw [BitVec.getLsbD_and, hmask ⟨i, hi⟩, hshift, BitVec.getLsbD_ofNat, BitVec.getLsbD_ofNat, Nat.testBit_shiftLeft,
    Nat.testBit_shiftRight]
  by_cases h : 2 ≤ i
  · simp [h]
  · simp [h]

/-- The address of a dword operand with its low bits cleared, as the spec masks it (R47). -/
theorem toNat_and_mask (v : Word) : (v &&& 0xFFFFFFFC).toNat = alignDown 4 v.toNat := by
  have hv := v.isLt
  rw [show v &&& 0xFFFFFFFC = BitVec.ofNat 32 (alignDown 4 v.toNat) by
      rw [ofNat_alignDown_four, BitVec.ofNat_toNat, BitVec.setWidth_eq], BitVec.toNat_ofNat, Nat.mod_eq_of_lt]
  unfold alignDown
  omega

/-- A multiple of 4 added to a sum is added to its rounded value (R48). -/
theorem alignDown_add_mul (x k : Nat) : alignDown 4 (x + 4 * k) = alignDown 4 x + 4 * k := by
  unfold alignDown
  omega

theorem alignDown_word_add (v : Word) (k : Nat) : alignDown 4 (v.toNat + 4 * k) = (v &&& 0xFFFFFFFC).toNat + 4 * k := by
  rw [toNat_and_mask, alignDown_add_mul]

/-- The effective address is the multiple of the width that the sum lies at or just above (R47, R50). -/
theorem alignDown_bounds {n : Nat} (hn : 0 < n) (x : Nat) :
    alignDown n x % n = 0 ∧ alignDown n x ≤ x ∧ x < alignDown n x + n := by
  have h1 := Nat.div_add_mod x n
  have h2 := Nat.mod_lt x hn
  unfold alignDown
  rw [Nat.mul_comm n] at h1
  exact ⟨Nat.mul_mod_left .., Nat.div_mul_le_self .., by omega⟩

/-! ## Bytes of a memory (R10, R54) -/

/-- Every byte after a store: those of the access are the value's, low byte first. -/
theorem cellGet_memWrite (m : Memory) (a n x b : Nat) :
    cellGet (memWrite m a n x) b
      = if a ≤ b ∧ b < a + n then BitVec.ofNat 8 (x / 256 ^ (b - a)) else cellGet m b := by
  split
  · rename_i h
    obtain ⟨i, rfl⟩ := Nat.exists_eq_add_of_le h.1
    rw [cellGet_memWrite_inside _ _ _ _ _ (by omega), Nat.add_sub_cancel_left]
  · exact cellGet_memWrite_outside _ _ _ _ _ (by omega)

/-- The byte `i` of a value is its bits `8i+7` to `8i`. -/
theorem ofNat_div_eq_extractLsb' {n i : Nat} (x : Nat) (hi : i < n) :
    BitVec.ofNat 8 (x / 256 ^ i) = (BitVec.ofNat (8 * n) x).extractLsb' (8 * i) 8 := by
  rw [show 256 ^ i = 2 ^ (8 * i) from (pow_mul 2 8 i).symm]
  refine BitVec.eq_of_getLsbD_eq fun j hj => ?_
  have hbit : 8 * i + j < 8 * n := by omega
  rw [BitVec.getLsbD_extractLsb', BitVec.getLsbD_ofNat, BitVec.getLsbD_ofNat, Nat.testBit_div_two_pow, Nat.add_comm j]
  simp [hj, hbit]

theorem memRead_eq_sum (m : Memory) (a n : Nat) :
    memRead m a n = ((List.range n).map (fun i => (cellGet m (a + i)).toNat * 256 ^ i)).sum := by
  induction n generalizing a with
  | zero => rfl
  | succ k ih =>
    rw [memRead, ih, List.range_succ_eq_map, List.map_cons, List.sum_cons, List.map_map, ← List.sum_map_mul_left]
    congr 2
    · simp
    · refine List.map_congr_left fun i _ => ?_
      simp only [Function.comp, Nat.succ_eq_add_one, show a + (i + 1) = a + 1 + i by omega, pow_succ]
      ring

/-- Each byte read is a byte of the value read. -/
theorem ofNat_memRead_div (m : Memory) (a : Nat) {n i : Nat} (hi : i < n) :
    BitVec.ofNat 8 (memRead m a n / 256 ^ i) = cellGet m (a + i) := by
  induction n generalizing a i with
  | zero => omega
  | succ k ih =>
    have hbyte := (cellGet m a).isLt
    cases i with
    | zero => simp [memRead, BitVec.ofNat_add, BitVec.ofNat_mul]
    | succ j =>
      have hdiv : memRead m a (k + 1) / 256 = memRead m (a + 1) k := by
        rw [memRead]
        omega
      rw [pow_succ', ← Nat.div_div_eq_div_mul, hdiv, ih _ (by omega), Nat.add_assoc, Nat.add_comm 1]

/-! ## Replacing one dword -/

/-- The dword at an address of a memory. -/
def dwordAt (m : Memory) (a : Nat) : Word := BitVec.ofNat 32 (memRead m a 4)

/-- The memory in which the dword at `a` has become `g` of what it was (R11). -/
def replaceDword (g : Word → Word) (a : Nat) (m : Memory) : Memory := memWrite m a 4 (g (dwordAt m a)).toNat

theorem dwordAt_congr {m m2 : Memory} {a : Nat} (h : ∀ b, cellGet m b = cellGet m2 b) : dwordAt m a = dwordAt m2 a := by
  rw [dwordAt, dwordAt, memRead_congr fun i _ => h (a + i)]

/-- A dword that has been stored is read back. -/
theorem dwordAt_memWrite (m : Memory) (a : Nat) (x : Word) : dwordAt (memWrite m a 4 x.toNat) a = x := by
  rw [dwordAt, memRead_memWrite_self, Nat.mod_eq_of_lt (show x.toNat < 256 ^ 4 from x.isLt), BitVec.ofNat_toNat,
    BitVec.setWidth_eq]

theorem dwordAt_replaceDword (g : Word → Word) (a : Nat) (m : Memory) :
    dwordAt (replaceDword g a m) a = g (dwordAt m a) :=
  dwordAt_memWrite ..

theorem dwordAt_replaceDword_disjoint (g : Word → Word) {a b : Nat} (m : Memory) (h : b + 4 ≤ a ∨ a + 4 ≤ b) :
    dwordAt (replaceDword g a m) b = dwordAt m b := by
  rw [dwordAt, replaceDword, memRead_memWrite_disjoint _ _ h, dwordAt]

theorem cellGet_replaceDword (g : Word → Word) (a : Nat) (m : Memory) (b : Nat) :
    cellGet (replaceDword g a m) b
      = if a ≤ b ∧ b < a + 4 then BitVec.ofNat 8 ((g (dwordAt m a)).toNat / 256 ^ (b - a)) else cellGet m b :=
  cellGet_memWrite ..

/-- Two replacements of one dword are one, by the composition. -/
theorem cellGet_replaceDword_twice (g h : Word → Word) (a : Nat) (m : Memory) (b : Nat) :
    cellGet (replaceDword g a (replaceDword h a m)) b = cellGet (replaceDword (fun x => g (h x)) a m) b := by
  simp only [cellGet_replaceDword, dwordAt_replaceDword]
  split <;> rfl

/-- Storing a dword's own value changes no byte. -/
theorem cellGet_replaceDword_id (a : Nat) (m : Memory) (b : Nat) :
    cellGet (replaceDword (fun x => x) a m) b = cellGet m b := by
  rw [cellGet_replaceDword]
  split
  · rename_i hb
    have hlt : memRead m a 4 < 2 ^ 32 := memRead_lt m a 4
    rw [dwordAt, BitVec.toNat_ofNat, Nat.mod_eq_of_lt hlt, ofNat_memRead_div m a (by omega), Nat.add_sub_cancel' hb.1]
  · rfl

/-- Replacements at addresses that share no byte can change places. -/
theorem cellGet_replaceDword_disjoint (g h : Word → Word) {a a2 : Nat} (hd : a + 4 ≤ a2 ∨ a2 + 4 ≤ a) (m : Memory)
    (b : Nat) :
    cellGet (replaceDword g a (replaceDword h a2 m)) b = cellGet (replaceDword h a2 (replaceDword g a m)) b := by
  simp only [cellGet_replaceDword, dwordAt_replaceDword_disjoint _ _ hd, dwordAt_replaceDword_disjoint _ _ hd.symm]
  split
  · rw [if_neg (by omega)]
  · rfl

/-! ## What plans and their checks read of the state -/

/-- Two states agree on all that a plan and the checks of R305 read: everything but memory, the program, `pc` and the
choices of order. -/
structure SameOperands (s t : State) : Prop where
  params : t.params = s.params
  m0 : t.m0 = s.m0
  m0Written : t.m0Written = s.m0Written
  active : t.active = s.active
  vgpr : t.vgpr = s.vgpr
  vgprUnwritten : t.vgprUnwritten = s.vgprUnwritten

theorem SameOperands.refl (s : State) : SameOperands s s := ⟨rfl, rfl, rfl, rfl, rfl, rfl⟩

theorem sameOperands_setMem (s : State) (sp : Space) (m : Memory) : SameOperands s (s.setMem sp m) :=
  ⟨setMem_params .., setMem_m0 .., setMem_m0Written .., setMem_active .., setMem_vgpr .., setMem_vgprUnwritten ..⟩

theorem sameOperands_laneTape (s : State) (tape : List Nat) : SameOperands s { s with laneTape := tape } :=
  ⟨rfl, rfl, rfl, rfl, rfl, rfl⟩

section
variable {s t : State} (h : SameOperands s t)
include h

/-- The other state, written as this one with the fields that may differ. -/
theorem SameOperands.eq_with : t = { s with
    pc := t.pc, lds := t.lds, gds := t.gds, imem := t.imem, progStart := t.progStart, progWords := t.progWords,
    laneTape := t.laneTape, issued := t.issued } := by
  obtain ⟨⟩ := s
  obtain ⟨⟩ := t
  obtain ⟨rfl, rfl, rfl, rfl, rfl, rfl⟩ := h
  rfl

theorem SameOperands.activeLanes : t.activeLanes = s.activeLanes := by rw [h.eq_with]; rfl

theorem SameOperands.firstUnwritten (plan : LanePlan) : plan.firstUnwritten t = plan.firstUnwritten s := by
  rw [h.eq_with]; rfl

theorem SameOperands.firstOutOfRange (plan : LanePlan) (sp : Space) :
    plan.firstOutOfRange sp t = plan.firstOutOfRange sp s := by
  rw [h.eq_with]; rfl

theorem SameOperands.vregsNat (r l k : Nat) : t.vregsNat r l k = s.vregsNat r l k := by
  induction k generalizing r with
  | zero => rfl
  | succ j ih => rw [State.vregsNat, State.vregsNat, ih, State.vreg, State.vreg, h.vgpr]

theorem SameOperands.data0 (w : Nat) (f : DsFields) : data0 w f t = data0 w f s :=
  funext fun _ => congrArg (BitVec.ofNat w) (h.vregsNat ..)

theorem SameOperands.data1 (w : Nat) (f : DsFields) : data1 w f t = data1 w f s :=
  funext fun _ => congrArg (BitVec.ofNat w) (h.vregsNat ..)

theorem SameOperands.access (n : Nat) (f : DsFields) : access n f t = access n f s := by rw [h.eq_with]; rfl

theorem SameOperands.access0 (scale n : Nat) (f : DsFields) : access0 scale n f t = access0 scale n f s := by
  rw [h.eq_with]; rfl

theorem SameOperands.access1 (scale n : Nat) (f : DsFields) : access1 scale n f t = access1 scale n f s := by
  rw [h.eq_with]; rfl

theorem SameOperands.loadAt : t.loadAt = s.loadAt := by rw [h.eq_with]; rfl

theorem SameOperands.storeAt : t.storeAt = s.storeAt := by rw [h.eq_with]; rfl

/-! A form is the same plan in both. -/

theorem SameOperands.rmwPlan (w : Nat) (two rtn : Bool) (op : BitVec w → BitVec w → BitVec w → BitVec w)
    (f : DsFields) :
    rmwPlan w two rtn op f t = rmwPlan w two rtn op f s := by
  simp only [Machine.rmwPlan, h.access, h.data0, h.data1, h.loadAt, h.storeAt]

theorem SameOperands.storePlan (k n : Nat) (f : DsFields) : storePlan k n f t = storePlan k n f s := by
  simp only [Machine.storePlan, h.access, h.data0, h.storeAt]

theorem SameOperands.store2Plan (w scale : Nat) (f : DsFields) : store2Plan w scale f t = store2Plan w scale f s := by
  simp only [Machine.store2Plan, h.access0, h.access1, h.data0, h.data1, h.storeAt]

theorem SameOperands.exchange2Plan (w scale : Nat) (f : DsFields) :
    exchange2Plan w scale f t = exchange2Plan w scale f s := by
  simp only [Machine.exchange2Plan, h.access0, h.access1, h.data0, h.data1, h.loadAt, h.storeAt]

theorem SameOperands.loadPlan (k n : Nat) (ext : Nat → Nat) (f : DsFields) :
    loadPlan k n ext f t = loadPlan k n ext f s := by
  simp only [Machine.loadPlan, h.access, h.loadAt]

theorem SameOperands.load2Plan (w scale : Nat) (f : DsFields) : load2Plan w scale f t = load2Plan w scale f s := by
  simp only [Machine.load2Plan, h.access0, h.access1, h.loadAt]

end

/-! ## A plan whose checks pass -/

/-- The checks of R305 items 2 to 5 pass. -/
structure LanePlan.Passes (plan : LanePlan) (sp : Space) (s : State) : Prop where
  registers : plan.regsInFile s.params = true
  m0 : s.activeLanes ≠ [] → s.m0Written = true
  sources : plan.firstUnwritten s = none
  range : plan.firstOutOfRange sp s = none

/-- The state a plan leaves once its checks have passed. -/
def LanePlan.finish (plan : LanePlan) (sp : Space) (s : State) : State :=
  if s.activeLanes = [] then s.advance else plan.commit sp s

section
variable {plan : LanePlan} {sp : Space} {s t : State}

theorem LanePlan.Passes.sameOperands (hp : plan.Passes sp s) (h : SameOperands s t) : plan.Passes sp t where
  registers := by rw [h.params]; exact hp.registers
  m0 := by rw [h.activeLanes, h.m0Written]; exact hp.m0
  sources := (h.firstUnwritten plan).trans hp.sources
  range := (h.firstOutOfRange plan sp).trans hp.range

theorem runPlan_passes (hp : plan.Passes sp s) (m : Mnemonic) : runPlan m sp plan s = .next (plan.finish sp s) := by
  unfold LanePlan.finish
  split
  · exact runPlan_noLane _ _ _ _ hp.registers ‹_›
  · exact runPlan_completes _ _ _ _ hp.registers ‹_› (hp.m0 ‹_›) hp.sources hp.range

/-- A plan that completes has passed its checks. -/
theorem passes_of_runPlan {m : Mnemonic} (h : runPlan m sp plan s = .next t) :
    plan.Passes sp s ∧ t = plan.finish sp s := by
  obtain ⟨hregs, ⟨ha, rfl⟩ | ⟨ha, hm, hu, ho, rfl⟩⟩ := runPlan_next _ _ h
  · exact ⟨⟨hregs, fun hne => absurd ha hne, by simp [LanePlan.firstUnwritten, ha],
      by simp [LanePlan.firstOutOfRange, ha]⟩, (if_pos ha).symm⟩
  · exact ⟨⟨hregs, fun _ => hm, hu, ho⟩, (if_neg ha).symm⟩

/-- With no active lane there is no lane to order. -/
theorem laneOrder_nil (h : s.activeLanes = []) : s.laneOrder = [] := by
  simpa [h] using laneOrder_perm s

variable (plan sp s)

/-- The selected memory left is what the lanes' effects leave one after another (R59). -/
theorem finish_mem :
    (plan.finish sp s).mem sp = s.laneOrder.foldl (fun m l => (plan.effect l m).1) (s.mem sp) := by
  unfold LanePlan.finish
  split
  · rw [laneOrder_nil ‹_›, advance_mem, List.foldl_nil]
  · exact (by simp [LanePlan.commit] : (plan.commit sp s).mem sp = (plan.runLanes sp s).mem sp).trans (runLanes_mem ..)

/-- The memory that is not selected is left alone (R45). -/
theorem finish_mem_ne {sp2 : Space} (h : sp2 ≠ sp) : (plan.finish sp s).mem sp2 = s.mem sp2 := by
  unfold LanePlan.finish
  split
  · exact advance_mem ..
  · simpa [LanePlan.commit] using runLanes_mem_ne plan sp s h

theorem finish_launch : SameLaunch s (plan.finish sp s) ∧ (plan.finish sp s).pc = s.pc + 8 := by
  unfold LanePlan.finish
  split
  · exact ⟨SameLaunch.advance s, rfl⟩
  · exact commit_launch plan sp s

variable {plan sp s}

/-- A byte of the selected memory that no lane's effect changes is as before. -/
theorem finish_byte {b : Nat} (h : ∀ l ∈ s.activeLanes, ∀ m, cellGet (plan.effect l m).1 b = cellGet m b) :
    (plan.finish sp s).byteAt sp b = s.byteAt sp b := by
  unfold LanePlan.finish
  split
  · rw [State.byteAt, advance_mem, State.byteAt]
  · refine runLanes_keeps plan sp (P := fun t => t.byteAt sp b = s.byteAt sp b) s rfl fun t l hl ht => ?_
    rw [State.byteAt, runLane_mem, h l hl, ← ht, State.byteAt]

theorem finish_otherRegs (hp : plan.Local) (hd : plan.dest.inFile s.params = true) {r l : Nat} (hr : r < 256)
    (h : ¬ (l ∈ s.activeLanes ∧ r ∈ plan.dest.regs)) :
    (plan.finish sp s).vreg r l = s.vreg r l ∧ (plan.finish sp s).holdsValue r l = s.holdsValue r l := by
  unfold LanePlan.finish
  split
  · exact ⟨rfl, rfl⟩
  · exact runLanes_otherRegs hp hd s r l hr h

theorem finish_returned (hp : plan.Local) (hd : plan.dest.inFile s.params = true) {before after : List Nat} {l i : Nat}
    {x : Word} (hsplit : s.laneOrder = before ++ l :: after)
    (hx : (plan.effect l (before.foldl (fun m l => (plan.effect l m).1) (s.mem sp))).2[i]? = some x) :
    (plan.finish sp s).vreg (plan.dest.first + i) l = x
      ∧ (plan.finish sp s).holdsValue (plan.dest.first + i) l = true := by
  have ha : s.activeLanes ≠ [] := fun hnil => by simp [laneOrder_nil hnil] at hsplit
  rw [LanePlan.finish, if_neg ha]
  exact runLanes_returned hp hd s hsplit hx

/-- A plan whose lanes return nothing leaves every operand as it was. -/
theorem finish_sameOperands (h : ∀ l m, (plan.effect l m).2 = []) : SameOperands s (plan.finish sp s) := by
  obtain ⟨hlaunch, -⟩ := finish_launch plan sp s
  have hregs : (plan.finish sp s).vgpr = s.vgpr ∧ (plan.finish sp s).vgprUnwritten = s.vgprUnwritten := by
    unfold LanePlan.finish
    split
    · exact ⟨rfl, rfl⟩
    · refine runLanes_keeps plan sp (P := fun t => t.vgpr = s.vgpr ∧ t.vgprUnwritten = s.vgprUnwritten) s ⟨rfl, rfl⟩ ?_
      intro t l _ ht
      simpa [LanePlan.runLane, h] using ht
  exact ⟨hlaunch.params, hlaunch.m0, hlaunch.m0Written, hlaunch.active, hregs.1, hregs.2⟩

end

/-! ## One form at a time -/

/-- The destination of a form, where it has one, is `VDST` (R26). -/
theorem FormPlan.dest_first {f : DsFields} {s : State} {plan : LanePlan} (h : FormPlan f s plan) :
    plan.dest.count = 0 ∨ plan.dest.first = f.vdst.toNat := by
  cases h with
  | rmw w two rtn op =>
    cases rtn with
    | false => exact .inl rfl
    | true => exact .inr rfl
  | store k n => exact .inl rfl
  | store2 w scale => exact .inl rfl
  | exchange2 w scale => exact .inr rfl
  | load k n ext => exact .inr rfl
  | load2 w scale => exact .inr rfl

theorem storeAt_unadmitted_or_outside (s : State) (sp : Space) (a : Access) (x : Nat) (m : Memory) (b : Nat)
    (h : s.admits sp a = true → ¬ a.Reaches b) : cellGet (s.storeAt sp a x m) b = cellGet m b := by
  by_cases ha : s.admits sp a = true
  · exact storeAt_outside _ _ _ _ _ _ (h ha)
  · rw [State.storeAt, if_neg ha]

/-- A lane writes no byte outside its admitted accesses (R53). -/
theorem FormPlan.effect_byte {f : DsFields} {s : State} {plan : LanePlan} (h : FormPlan f s plan) {l b : Nat}
    (hb : ∀ a ∈ plan.accesses l, s.admits (space f) a = true → ¬ a.Reaches b) (m : Memory) :
    cellGet (plan.effect l m).1 b = cellGet m b := by
  cases h with
  | rmw w two rtn op => exact storeAt_unadmitted_or_outside _ _ _ _ _ _ (hb _ List.mem_cons_self)
  | store k n => exact storeAt_unadmitted_or_outside _ _ _ _ _ _ (hb _ List.mem_cons_self)
  | store2 w scale =>
    exact (storeAt_unadmitted_or_outside _ _ _ _ _ _ (hb _ (List.mem_cons_of_mem _ List.mem_cons_self))).trans
      (storeAt_unadmitted_or_outside _ _ _ _ _ _ (hb _ List.mem_cons_self))
  | exchange2 w scale =>
    exact (storeAt_unadmitted_or_outside _ _ _ _ _ _ (hb _ (List.mem_cons_of_mem _ List.mem_cons_self))).trans
      (storeAt_unadmitted_or_outside _ _ _ _ _ _ (hb _ List.mem_cons_self))
  | load k n ext => rfl
  | load2 w scale => rfl

/-- The access that is not admitted, of the lowest-numbered active lane that has one, is the one reported (R305
item 5). -/
theorem runPlan_outOfRange {plan : LanePlan} {sp : Space} {s : State} (m : Mnemonic)
    (hfile : plan.regsInFile s.params = true) (ha : s.activeLanes ≠ []) (hm : s.m0Written = true)
    (hu : plan.firstUnwritten s = none) {r : Fault} (hr : plan.firstOutOfRange sp s = some r) :
    runPlan m sp plan s = .fault r := by
  simp [runPlan, hfile, ha, hm, hu, hr]

theorem laneOutOfRange_none {plan : LanePlan} {sp : Space} {s : State} {l : Nat}
    (h : ∀ b ∈ plan.accesses l, s.admits sp b = true) : plan.laneOutOfRange sp s l = none :=
  List.findSome?_eq_none_iff.2 fun b hb => if_pos (h b hb)

theorem laneOutOfRange_some {plan : LanePlan} {sp : Space} {s : State} {l : Nat} {a : Access} {accs accs2 : List Access}
    (hsplit : plan.accesses l = accs ++ a :: accs2) (haccs : ∀ b ∈ accs, s.admits sp b = true)
    (ha : s.admits sp a = false) : plan.laneOutOfRange sp s l = some (s.rangeFault sp l a) := by
  have hbefore : accs.findSome? (fun b => if s.admits sp b then none else some (s.rangeFault sp l b)) = none :=
    List.findSome?_eq_none_iff.2 fun b hb => if_pos (haccs b hb)
  simp [LanePlan.laneOutOfRange, hsplit, List.findSome?_append, hbefore, ha]

theorem firstOutOfRange_some {plan : LanePlan} {sp : Space} {s : State} {l : Nat} {lanes lanes2 : List Nat} {r : Fault}
    (hfault : s.rangeFaults sp = true) (hsplit : s.activeLanes = lanes ++ l :: lanes2)
    (hlanes : ∀ k ∈ lanes, plan.laneOutOfRange sp s k = none) (hl : plan.laneOutOfRange sp s l = some r) :
    plan.firstOutOfRange sp s = some r := by
  simp [LanePlan.firstOutOfRange, hfault, hsplit, List.findSome?_append, List.findSome?_eq_none_iff.2 hlanes, hl]

/-- Under `fault`, and in GDS, an access that is not admitted ends the run (R53). -/
theorem rangeFaults_of {s : State} {sp : Space} (h : s.params.oorPolicy = .fault ∨ sp = .gds) :
    s.rangeFaults sp = true := by
  unfold State.rangeFaults
  rcases h with h | rfl
  · rw [h]
  · cases s.params.oorPolicy <;> rfl

/-- Under `zero_drop` no access to LDS ends the run (R53). -/
theorem rangeFaults_zeroDrop {s : State} (h : s.params.oorPolicy = .zeroDrop) : s.rangeFaults .lds = false := by
  simp [State.rangeFaults, h]

/-- A lane that shares no byte with another leaves in the bytes it reaches what its effect makes of the memory before
the instruction. -/
theorem finish_alone {plan : LanePlan} {sp : Space} {s : State} (hp : plan.Local)
    (hd : plan.dest.inFile s.params = true) {l : Nat} (hl : l ∈ s.activeLanes)
    (halone : ∀ k ∈ s.activeLanes, k ≠ l → ∀ a ∈ plan.accesses l, ∀ c ∈ plan.accesses k, Claims.Apart a c)
    {a : Access} (ha : a ∈ plan.accesses l) {b : Nat} (hb : a.Reaches b) :
    (plan.finish sp s).byteAt sp b = cellGet (plan.effect l (s.mem sp)).1 b := by
  rw [LanePlan.finish, if_neg (List.ne_nil_of_mem hl)]
  refine (runLanes_lane hp hd s l hl fun k hk hne m a2 ha2 b2 hb2 => hp.outside k m b2 fun c hc hcb => ?_).1 a ha b hb
  have := halone k hk hne a2 ha2 c hc
  unfold Claims.Apart at this
  unfold Access.Reaches at hb2 hcb
  omega

/-! ## With other contents in the space not selected (R45) -/

/-- The outcome with its next state changed, if it has one. -/
def mapNext (g : State → State) (o : Result) : Result :=
  match o with
  | .next t => .next (g t)
  | .fault r => .fault r
  | .refused r => .refused r

theorem setVreg_setMem (s : State) (r l : Nat) (x : Word) (sp : Space) (m : Memory) :
    (s.setMem sp m).setVreg r l x = (s.setVreg r l x).setMem sp m := by
  cases sp <;> rfl

theorem setVregs_setMem (s : State) (r l : Nat) (xs : List Word) (sp : Space) (m : Memory) :
    (s.setMem sp m).setVregs r l xs = (s.setVregs r l xs).setMem sp m := by
  induction xs generalizing s r with
  | nil => rfl
  | cons x rest ih => rw [State.setVregs, State.setVregs, setVreg_setMem, ih]

theorem setMem_comm (s : State) {sp sp2 : Space} (m m2 : Memory) (h : sp2 ≠ sp) :
    (s.setMem sp2 m2).setMem sp m = (s.setMem sp m).setMem sp2 m2 := by
  cases sp <;> cases sp2 <;> trivial

section
variable (plan : LanePlan) {sp sp2 : Space} (h : sp2 ≠ sp) (s : State) (m : Memory)
include h

theorem runLane_setMem (l : Nat) : plan.runLane sp (s.setMem sp2 m) l = (plan.runLane sp s l).setMem sp2 m := by
  rw [LanePlan.runLane, setMem_mem_ne s m h.symm, setMem_comm _ _ _ h, setVregs_setMem, LanePlan.runLane]

theorem commit_setMem : plan.commit sp (s.setMem sp2 m) = (plan.commit sp s).setMem sp2 m := by
  have hfold : ∀ (ls : List Nat) (t : State), ls.foldl (fun t l => plan.runLane sp t l) (t.setMem sp2 m)
      = (ls.foldl (fun t l => plan.runLane sp t l) t).setMem sp2 m := by
    intro ls
    induction ls with
    | nil => exact fun _ => rfl
    | cons l rest ih => exact fun t => by rw [List.foldl_cons, runLane_setMem plan h, ih, List.foldl_cons]
  have horder : (s.setMem sp2 m).laneOrder = s.laneOrder := by
    cases sp2 <;> rfl
  rw [LanePlan.commit, LanePlan.commit, LanePlan.runLanes, horder, hfold, ← LanePlan.runLanes]
  cases sp2 <;> rfl

theorem runPlan_setMem (mn : Mnemonic) :
    runPlan mn sp plan (s.setMem sp2 m) = mapNext (fun t => t.setMem sp2 m) (runPlan mn sp plan s) := by
  have hs := sameOperands_setMem s sp2 m
  unfold runPlan
  rw [hs.params, hs.activeLanes, hs.m0Written, hs.firstUnwritten, hs.firstOutOfRange, setMem_pc, commit_setMem plan h]
  split
  · rfl
  · split
    · cases sp2 <;> rfl
    · split
      · rfl
      · split
        · rfl
        · split <;> rfl

theorem runPlanOf_setMem (gk : Bool) (mn : Mnemonic) :
    runPlanOf gk mn sp plan (s.setMem sp2 m) = mapNext (fun t => t.setMem sp2 m) (runPlanOf gk mn sp plan s) := by
  by_cases hg : gk = true → s.params.admitGk = true
  · rw [runPlanOf_admitted hg, runPlanOf_admitted (by rwa [setMem_params]), runPlan_setMem plan h]
  · obtain ⟨rfl, hadm⟩ := Classical.not_imp.1 hg
    simp [runPlanOf, runGkPlan, hadm, undescribed, mapNext]

end

end Sys2Proof.Machine

namespace Sys2Proof.Claims

open Sys2Proof.Machine

/-! ## The operation of one lane, and the plan's effect -/

theorem dwordsOf_eq_toWords (k x : Nat) : dwordsOf k x = toWords k x := by
  induction k generalizing x with
  | zero => rfl
  | succ j ih =>
    rw [toWords, ← ih, dwordsOf, dwordsOf, List.range_succ_eq_map, List.map_cons, List.map_map]
    congr 1
    · simp
    · refine List.map_congr_left fun i _ => ?_
      rw [Function.comp, Nat.div_div_eq_div_mul, ← pow_add]
      congr 3
      omega

/-- An operand of one or two dwords is the value of its registers (R27). -/
theorem ofNat_vregsNat {w : Nat} (hw : w = 32 ∨ w = 64) (s : State) (r l : Nat) :
    BitVec.ofNat w (s.vregsNat r l (w / 32)) = operand w s r l := by
  have h0 := (s.vreg r l).isLt
  have h1 := (s.vreg (r + 1) l).isLt
  refine BitVec.eq_of_toNat_eq ?_
  rw [operand, BitVec.toNat_setWidth, vpair, BitVec.toNat_append, BitVec.toNat_ofNat,
    ← Nat.shiftLeft_add_eq_or_of_lt h0, Nat.shiftLeft_eq]
  rcases hw with rfl | rfl
  · simp only [State.vregsNat]
    omega
  · simp only [State.vregsNat]
    omega

theorem operand_dword (s : State) (r l : Nat) : operand 32 s r l = s.vreg r l := by
  rw [← ofNat_vregsNat (.inl rfl)]
  simp [State.vregsNat]

section
variable {w : Nat} (hw : w = 32 ∨ w = 64) (f : DsFields) (s : State) (l : Nat)
include hw

theorem data0_eq_operand : data0 w f s l = operand w s f.vdata0.toNat l := ofNat_vregsNat hw ..

theorem data1_eq_operand : data1 w f s l = operand w s f.vdata1.toNat l := ofNat_vregsNat hw ..

end

/-! The two halves of the model's accesses are the port of `zero_drop`; it drops no access that is admitted. -/

theorem loadAt_eq_read (s : State) (sp : Space) (a : Access) (m : Memory) :
    s.loadAt sp a m = (droppingPort s sp).read a m := by
  simp only [State.loadAt, droppingPort, Admitted, admits_iff]

theorem storeAt_eq_write (s : State) (sp : Space) (a : Access) (x : Nat) (m : Memory) :
    s.storeAt sp a x m = (droppingPort s sp).write a x m := by
  simp only [State.storeAt, droppingPort, Admitted, admits_iff]

theorem droppingPort_admitted {s : State} {sp : Space} {a : Access} (h : Admitted s sp a) :
    (droppingPort s sp).read a = plainPort.read a ∧ (droppingPort s sp).write a = plainPort.write a :=
  ⟨funext fun _ => if_pos h, funext fun _ => funext fun _ => if_pos h⟩

/-- A value of 0 is returned as dwords 0. -/
theorem dwordsOf_zero {k i : Nat} (h : i < k) : (dwordsOf k 0)[i]? = some 0 := by
  simp [dwordsOf, h]

/-- Of two values returned, the one whose index is `j` is 0. -/
theorem dwordsOf_append_zero {k i x y : Nat} (j : Nat) (h : i < k) (hj : j = 0 ∧ x = 0 ∨ j = 1 ∧ y = 0) :
    (dwordsOf k x ++ dwordsOf k y)[j * k + i]? = some 0 := by
  have hlen : (dwordsOf k x).length = k := by simp [dwordsOf]
  rcases hj with ⟨rfl, rfl⟩ | ⟨rfl, rfl⟩
  · rw [Nat.zero_mul, Nat.zero_add, List.getElem?_append_left (by omega), dwordsOf_zero h]
  · rw [Nat.one_mul, List.getElem?_append_right (by omega), hlen, Nat.add_sub_cancel_left, dwordsOf_zero h]

theorem getElem?_singleton_eq_some {j : Nat} {a b : Access} (h : [b][j]? = some a) : j = 0 ∧ a = b := by
  cases j with
  | zero => exact ⟨rfl, (Option.some.inj h).symm⟩
  | succ j => simp at h

theorem getElem?_pair_eq_some {j : Nat} {a b c : Access} (h : [b, c][j]? = some a) : j = 0 ∧ a = b ∨ j = 1 ∧ a = c := by
  cases j with
  | zero => exact .inl ⟨rfl, (Option.some.inj h).symm⟩
  | succ j =>
    obtain ⟨rfl, rfl⟩ := getElem?_singleton_eq_some h
    exact .inr ⟨rfl, rfl⟩

/-- What an instruction that accesses memory runs: a plan of its shape in which a lane's effect is the operation's. -/
structure Operation.Means (o : Operation) (plan : DsFields → State → LanePlan) : Prop extends o.shape.Carries plan where
  /-- The plan depends on the operands alone. -/
  operands : ∀ f s t, SameOperands s t → plan f t = plan f s
  effect : ∀ f s l m, (plan f s).effect l m = o.lane (droppingPort s (space f)) f s l m
  /-- A lane reaches memory through its accesses alone. -/
  ports : ∀ f s l (p q : Port), (∀ a ∈ o.shape.accesses f s l, p.read a = q.read a ∧ p.write a = q.write a) →
    o.lane p f s l = o.lane q f s l
  /-- A load leaves memory alone. -/
  loads : o.shape.stores = false → ∀ p f s l m, (o.lane p f s l m).1 = m
  /-- An access that reads 0 returns 0. -/
  zeros : ∀ p f s l m j a i, (o.shape.accesses f s l)[j]? = some a → (∀ m, p.read a m = 0) →
    i < (o.shape.dest f).count / (o.shape.accesses f s l).length →
    (o.lane p f s l m).2[j * ((o.shape.dest f).count / (o.shape.accesses f s l).length) + i]? = some 0

/-- An operation that is the meaning of its instruction. -/
def Operation.Meant (o : Operation) : Prop := ∃ plan, o.Means plan

section
variable {instr : DsFields → Instr} {gk two rtn : Bool} {w scale k n : Nat}

/-! One lemma per form; its last premise is the instruction's arm of `exec`, which holds by unfolding. -/

theorem rmw_meant {op g : BitVec w → BitVec w → BitVec w → BitVec w} (hop : op = g)
    (hw : w = 32 ∨ w = 64 := by decide)
    (h : ∀ f s, exec (instr f) s = runPlanOf gk (instr f).mnemonic (space f) (rmwPlan w two rtn op f s) s
      := by intros; rfl) : (rmwOperation w instr gk two rtn g).Meant := by
  subst hop
  refine ⟨rmwPlan w two rtn op,
    { form := fun _ _ => .rmw .., sources := fun _ _ => rfl, dest := fun _ _ => rfl, accesses := fun _ _ => rfl
      runs := h
      operands := fun _ _ _ hst => hst.rmwPlan ..
      effect := fun f s l m => ?effect
      ports := fun f s l p q hpq => ?ports
      loads := nofun
      zeros := fun p f s l m j a i hj ha hi => ?zeros }⟩
  case effect =>
    simp only [rmwPlan, rmwOperation, loadAt_eq_read, storeAt_eq_write, data0_eq_operand hw, data1_eq_operand hw,
      dwordsOf_eq_toWords]
  case ports =>
    obtain ⟨hr, hwr⟩ := hpq _ (List.mem_singleton_self _)
    simp only [rmwOperation, hr, hwr]
  case zeros =>
    obtain ⟨rfl, rfl⟩ := getElem?_singleton_eq_some hj
    cases rtn with
    | false => simp [rmwOperation, rmwShape, noDst] at hi
    | true =>
      simp only [rmwOperation, rmwShape, dstRange, List.length_singleton, Nat.div_one, if_true] at hi ⊢
      rw [ha, Nat.zero_mul, Nat.zero_add, dwordsOf_zero hi]

theorem store_meant (hk : 32 * k = 32 ∨ 32 * k = 64 := by decide)
    (h : ∀ f s, exec (instr f) s = runPlanOf gk (instr f).mnemonic (space f) (storePlan k n f s) s
      := by intros; rfl) : (storeOperation instr gk k n).Meant := by
  refine ⟨storePlan k n,
    { form := fun _ _ => .store .., sources := fun _ _ => rfl, dest := fun _ _ => rfl, accesses := fun _ _ => rfl
      runs := h
      operands := fun _ _ _ hst => hst.storePlan ..
      effect := fun f s l m => ?effect
      ports := fun f s l p q hpq => ?ports
      loads := nofun
      zeros := fun p f s l m j a i _ _ hi => ?zeros }⟩
  case effect =>
    simp only [storePlan, storeOperation, storeAt_eq_write, data0_eq_operand hk]
  case ports =>
    obtain ⟨-, hwr⟩ := hpq _ (List.mem_singleton_self _)
    simp only [storeOperation, hwr]
  case zeros =>
    simp [storeOperation, storeShape, noDst] at hi

theorem store2_meant (hw : w = 32 ∨ w = 64 := by decide)
    (h : ∀ f s, exec (instr f) s = runPlanOf gk (instr f).mnemonic (space f) (store2Plan w scale f s) s
      := by intros; rfl) : (store2Operation w instr gk scale).Meant := by
  refine ⟨store2Plan w scale,
    { form := fun _ _ => .store2 .., sources := fun _ _ => rfl, dest := fun _ _ => rfl, accesses := fun _ _ => rfl
      runs := h
      operands := fun _ _ _ hst => hst.store2Plan ..
      effect := fun f s l m => ?effect
      ports := fun f s l p q hpq => ?ports
      loads := nofun
      zeros := fun p f s l m j a i _ _ hi => ?zeros }⟩
  case effect =>
    simp only [store2Plan, store2Operation, storeAt_eq_write, data0_eq_operand hw, data1_eq_operand hw]
  case ports =>
    obtain ⟨⟨-, hwr0⟩, hsecond⟩ := List.forall_mem_cons.1 hpq
    obtain ⟨-, hwr1⟩ := List.forall_mem_singleton.1 hsecond
    simp only [store2Operation, hwr0, hwr1]
  case zeros =>
    simp [store2Operation, store2Shape, noDst] at hi

theorem exchange2_meant (hw : w = 32 ∨ w = 64 := by decide)
    (h : ∀ f s, exec (instr f) s = runPlanOf true (instr f).mnemonic (space f) (exchange2Plan w scale f s) s
      := by intros; rfl) : (exchange2Operation w instr scale).Meant := by
  refine ⟨exchange2Plan w scale,
    { form := fun _ _ => .exchange2 .., sources := fun _ _ => rfl, dest := fun _ _ => rfl, accesses := fun _ _ => rfl
      runs := h
      operands := fun _ _ _ hst => hst.exchange2Plan ..
      effect := fun f s l m => ?effect
      ports := fun f s l p q hpq => ?ports
      loads := nofun
      zeros := fun p f s l m j a i hj ha hi => ?zeros }⟩
  case effect =>
    simp only [exchange2Plan, exchange2Operation, loadAt_eq_read, storeAt_eq_write, data0_eq_operand hw,
      data1_eq_operand hw, dwordsOf_eq_toWords]
  case ports =>
    obtain ⟨⟨hr0, hwr0⟩, hsecond⟩ := List.forall_mem_cons.1 hpq
    obtain ⟨hr1, hwr1⟩ := List.forall_mem_singleton.1 hsecond
    simp only [exchange2Operation, hr0, hwr0, hr1, hwr1]
  case zeros =>
    simp only [exchange2Operation, exchange2Shape, store2Shape, dstRange, List.length_cons, List.length_nil,
      Nat.zero_add, Nat.reduceAdd, Nat.mul_div_cancel_left _ Nat.two_pos] at hi ⊢
    refine dwordsOf_append_zero j hi ((getElem?_pair_eq_some hj).imp ?_ ?_)
    · rintro ⟨rfl, rfl⟩
      exact ⟨rfl, ha _⟩
    · rintro ⟨rfl, rfl⟩
      exact ⟨rfl, ha _⟩

theorem load_meant {ext ext2 : Nat → Nat} (hext : ext = ext2) (h0 : ext2 0 = 0 := by decide)
    (h : ∀ f s, exec (instr f) s = runPlanOf true (instr f).mnemonic (space f) (loadPlan k n ext f s) s
      := by intros; rfl) : (loadOperation instr k n ext2).Meant := by
  subst hext
  refine ⟨loadPlan k n ext,
    { form := fun _ _ => .load .., sources := fun _ _ => rfl, dest := fun _ _ => rfl, accesses := fun _ _ => rfl
      runs := h
      operands := fun _ _ _ hst => hst.loadPlan ..
      effect := fun f s l m => ?effect
      ports := fun f s l p q hpq => ?ports
      loads := fun _ _ _ _ _ _ => rfl
      zeros := fun p f s l m j a i hj ha hi => ?zeros }⟩
  case effect =>
    simp only [loadPlan, loadOperation, loadAt_eq_read, dwordsOf_eq_toWords]
  case ports =>
    obtain ⟨hr, -⟩ := hpq _ (List.mem_singleton_self _)
    simp only [loadOperation, hr]
  case zeros =>
    obtain ⟨rfl, rfl⟩ := getElem?_singleton_eq_some hj
    simp only [loadOperation, loadShape, dstRange, List.length_singleton, Nat.div_one] at hi ⊢
    rw [ha, h0, Nat.zero_mul, Nat.zero_add, dwordsOf_zero hi]

theorem load2_meant
    (h : ∀ f s, exec (instr f) s = runPlanOf true (instr f).mnemonic (space f) (load2Plan w scale f s) s
      := by intros; rfl) : (load2Operation w instr scale).Meant := by
  refine ⟨load2Plan w scale,
    { form := fun _ _ => .load2 .., sources := fun _ _ => rfl, dest := fun _ _ => rfl, accesses := fun _ _ => rfl
      runs := h
      operands := fun _ _ _ hst => hst.load2Plan ..
      effect := fun f s l m => ?effect
      ports := fun f s l p q hpq => ?ports
      loads := fun _ _ _ _ _ _ => rfl
      zeros := fun p f s l m j a i hj ha hi => ?zeros }⟩
  case effect =>
    simp only [load2Plan, load2Operation, loadAt_eq_read, dwordsOf_eq_toWords]
  case ports =>
    obtain ⟨⟨hr0, -⟩, hsecond⟩ := List.forall_mem_cons.1 hpq
    obtain ⟨hr1, -⟩ := List.forall_mem_singleton.1 hsecond
    simp only [load2Operation, hr0, hr1]
  case zeros =>
    simp only [load2Operation, load2Shape, dstRange, List.length_cons, List.length_nil, Nat.zero_add, Nat.reduceAdd,
      Nat.mul_div_cancel_left _ Nat.two_pos] at hi ⊢
    refine dwordsOf_append_zero j hi ((getElem?_pair_eq_some hj).imp ?_ ?_)
    · rintro ⟨rfl, rfl⟩
      exact ⟨rfl, ha _⟩
    · rintro ⟨rfl, rfl⟩
      exact ⟨rfl, ha _⟩

end

/-! The model's functions of the old value are those of R100 to R114. -/

section
variable {w : Nat}

theorem alu_inc_eq : Alu.inc (w := w) = fun x d0 _ => incOf x d0 := by
  funext x d0 _
  simp only [Alu.inc, incOf, BitVec.ult_iff_lt]

theorem alu_dec_eq : Alu.dec (w := w) = fun x d0 _ => decOf x d0 := by
  funext x d0 _
  simp only [Alu.dec, decOf, Bool.and_eq_true, BitVec.ule_iff_le, bne_iff_ne]

theorem alu_minS_eq : Alu.minS (w := w) = fun x d0 _ => minsOf x d0 := by
  funext x d0 _
  simp only [Alu.minS, minsOf, BitVec.slt_iff_toInt_lt, ← not_le, ite_not]

theorem alu_maxS_eq : Alu.maxS (w := w) = fun x d0 _ => maxsOf x d0 := by
  funext x d0 _
  simp only [Alu.maxS, maxsOf, BitVec.slt_iff_toInt_lt, ← not_le, ite_not]

theorem alu_minU_eq : Alu.minU (w := w) = fun x d0 _ => minuOf x d0 := by
  funext x d0 _
  simp only [Alu.minU, minuOf, BitVec.ult_iff_lt, ← BitVec.not_le, ite_not]

theorem alu_maxU_eq : Alu.maxU (w := w) = fun x d0 _ => maxuOf x d0 := by
  funext x d0 _
  simp only [Alu.maxU, maxuOf, BitVec.ult_iff_lt, ← BitVec.not_le, ite_not]

end

theorem atomicOperations32_meant : ∀ o ∈ atomicOperations32, o.Meant := by
  simp only [atomicOperations32, List.forall_mem_cons]
  exact ⟨rmw_meant rfl, rmw_meant rfl, rmw_meant rfl, rmw_meant alu_inc_eq, rmw_meant alu_dec_eq, rmw_meant alu_minS_eq,
    rmw_meant alu_maxS_eq, rmw_meant alu_minU_eq, rmw_meant alu_maxU_eq, rmw_meant rfl, rmw_meant rfl, rmw_meant rfl,
    rmw_meant rfl, rmw_meant rfl, List.forall_mem_nil _⟩

theorem atomicOperationsRtn32_meant : ∀ o ∈ atomicOperationsRtn32, o.Meant := by
  simp only [atomicOperationsRtn32, List.forall_mem_cons]
  exact ⟨rmw_meant rfl, rmw_meant rfl, rmw_meant rfl, rmw_meant alu_inc_eq, rmw_meant alu_dec_eq, rmw_meant alu_minS_eq,
    rmw_meant alu_maxS_eq, rmw_meant alu_minU_eq, rmw_meant alu_maxU_eq, rmw_meant rfl, rmw_meant rfl, rmw_meant rfl,
    rmw_meant rfl, rmw_meant rfl, exchange2_meant, exchange2_meant, rmw_meant rfl, List.forall_mem_nil _⟩

theorem atomicOperations64_meant : ∀ o ∈ atomicOperations64, o.Meant := by
  simp only [atomicOperations64, List.forall_mem_cons]
  exact ⟨rmw_meant rfl, rmw_meant rfl, rmw_meant rfl, rmw_meant alu_inc_eq, rmw_meant alu_dec_eq, rmw_meant alu_minS_eq,
    rmw_meant alu_maxS_eq, rmw_meant alu_minU_eq, rmw_meant alu_maxU_eq, rmw_meant rfl, rmw_meant rfl, rmw_meant rfl,
    rmw_meant rfl, rmw_meant rfl, List.forall_mem_nil _⟩

theorem atomicOperationsRtn64_meant : ∀ o ∈ atomicOperationsRtn64, o.Meant := by
  simp only [atomicOperationsRtn64, List.forall_mem_cons]
  exact ⟨rmw_meant rfl, rmw_meant rfl, rmw_meant rfl, rmw_meant alu_inc_eq, rmw_meant alu_dec_eq, rmw_meant alu_minS_eq,
    rmw_meant alu_maxS_eq, rmw_meant alu_minU_eq, rmw_meant alu_maxU_eq, rmw_meant rfl, rmw_meant rfl, rmw_meant rfl,
    rmw_meant rfl, rmw_meant rfl, exchange2_meant, exchange2_meant, rmw_meant rfl, List.forall_mem_nil _⟩

theorem storeOperations_meant : ∀ o ∈ storeOperations, o.Meant := by
  simp only [storeOperations, List.forall_mem_cons]
  exact ⟨store_meant, store2_meant, store2_meant, store_meant, store_meant, store_meant, store2_meant, store2_meant,
    List.forall_mem_nil _⟩

theorem loadOperations_meant : ∀ o ∈ loadOperations, o.Meant := by
  simp only [loadOperations, List.forall_mem_cons]
  exact ⟨load_meant rfl, load2_meant, load2_meant, load_meant rfl, load_meant rfl, load_meant rfl, load_meant rfl,
    load_meant rfl, load2_meant, load2_meant, List.forall_mem_nil _⟩

/-- Each of the 80 instructions that access memory does, lane by lane, what its operation says. -/
theorem memoryOperations_meant (o : Operation) (ho : o ∈ memoryOperations) : o.Meant := by
  simp only [memoryOperations, atomicOperations, List.mem_append] at ho
  rcases ho with ((((h | h) | h) | h) | h) | h
  · exact atomicOperations32_meant o h
  · exact atomicOperationsRtn32_meant o h
  · exact atomicOperations64_meant o h
  · exact atomicOperationsRtn64_meant o h
  · exact storeOperations_meant o h
  · exact loadOperations_meant o h

/-! ## An instruction whose checks pass -/

/-- The checks of a plan are those of its shape. -/
theorem Shape.Carries.passes {sh : Shape} {plan : DsFields → State → LanePlan} (hc : sh.Carries plan) {f : DsFields}
    {s : State} (hregs : ∀ r ∈ sh.dest f :: sh.sources f, r.count = 0 ∨ r.first + r.count ≤ min s.params.vgprAlloc 256)
    (hm : s.activeLanes ≠ [] → s.m0Written = true)
    (hval : ∀ l ∈ s.activeLanes, ∀ r ∈ sh.sources f, ∀ i < r.count, s.holdsValue (r.first + i) l = true)
    (hrange : s.rangeFaults (space f) = true → ∀ l ∈ s.activeLanes, ∀ a ∈ sh.accesses f s l, Admitted s (space f) a) :
    (plan f s).Passes (space f) s where
  registers := (regsInFile_iff _ _).2 (by rwa [hc.dest, hc.sources])
  m0 := hm
  sources := (firstUnwritten_none _ _).2 (by rwa [hc.sources])
  range := by
    rw [firstOutOfRange_none, hc.accesses]
    exact fun hf l hl a ha => (admits_iff _ _ _).2 (hrange hf l hl a ha)

theorem Ready.passes {sh : Shape} {plan : DsFields → State → LanePlan} {f : DsFields} {s : State} (h : Ready sh f s)
    (hc : sh.Carries plan) : (plan f s).Passes (space f) s :=
  hc.passes h.registers h.m0 h.values fun _ => h.inRange

section
variable {o : Operation} {plan : DsFields → State → LanePlan} (ho : o.Means plan) {f : DsFields} {s : State}
include ho

/-- Whatever choices of order are supplied, the instruction completes with the state its plan leaves. -/
theorem Operation.Means.exec_tape (hgk : o.shape.gk = true → s.params.admitGk = true)
    (hp : (plan f s).Passes (space f) s) (tape : List Nat) :
    exec (o.shape.instr f) { s with laneTape := tape }
      = .next ((plan f s).finish (space f) { s with laneTape := tape }) := by
  have hu := sameOperands_laneTape s tape
  rw [ho.runs, ho.operands f s _ hu]
  exact (runPlanOf_admitted (s := { s with laneTape := tape }) hgk ..).trans (runPlan_passes (hp.sameOperands hu) _)

theorem Operation.Means.frame (hp : (plan f s).Passes (space f) s) :
    Frame o.shape f s ((plan f s).finish (space f) s) where
  pc := (finish_launch ..).2
  launch := (finish_launch ..).1
  otherSpace sp hsp := finish_mem_ne _ _ _ hsp
  otherBytes b hb := by
    refine finish_byte fun l hl m => ?_
    cases hst : o.shape.stores with
    | false => rw [ho.effect, ho.loads hst]
    | true => exact (ho.form f s).isLocal.outside l m b (by rw [ho.accesses]; exact hb hst l hl)
  otherRegisters r l hr h :=
    finish_otherRegs (ho.form f s).isLocal (regsInFile_dest hp.registers) hr (by rwa [ho.dest])

/-- The lanes act one after another in the order that the supply of choices picks (R59). -/
theorem Operation.Means.takesOrder (hp : (plan f s).Passes (space f) s) (tape : List Nat) :
    TakesOrder o (droppingPort s (space f)) f s ((plan f s).finish (space f) { s with laneTape := tape })
      { s with laneTape := tape }.laneOrder := by
  have hmem : { s with laneTape := tape }.mem (space f) = s.mem (space f) := by
    cases space f <;> rfl
  refine ⟨laneOrder_perm _, ?_, fun before l after hsplit i x hx => ?_⟩
  · simp only [finish_mem, hmem, memoryAfter, ho.effect]
  · simp only [memoryAfter, ← ho.effect, ← hmem] at hx
    have hcount := (List.getElem?_eq_some_iff.1 hx).1
    rw [(ho.form f s).isLocal.count] at hcount
    rcases (ho.form f s).dest_first with hzero | hfirst
    · omega
    · rw [← hfirst]
      exact finish_returned (s := { s with laneTape := tape }) (ho.form f s).isLocal (regsInFile_dest hp.registers)
        hsplit hx

/-- An access that is not admitted returns 0 into its share of the destination (R53). -/
theorem Operation.Means.dropped_returns_zero {t : State} {order : List Nat}
    (horder : TakesOrder o (droppingPort s (space f)) f s t order) {l : Nat} (hl : l ∈ s.activeLanes) {j : Nat}
    {a : Access} (hj : (o.shape.accesses f s l)[j]? = some a) (ha : ¬ Admitted s (space f) a) {i : Nat}
    (hi : i < (o.shape.dest f).count / (o.shape.accesses f s l).length) :
    t.vreg ((o.shape.dest f).first + j * ((o.shape.dest f).count / (o.shape.accesses f s l).length) + i) l = 0 := by
  obtain ⟨before, after, hsplit⟩ := List.append_of_mem (horder.lanes.mem_iff.2 hl)
  have hzero := ho.zeros (droppingPort s (space f)) f s l (memoryAfter o (droppingPort s (space f)) f s before) j a i hj
    (fun m => if_neg ha) hi
  have hfirst : (o.shape.dest f).first = f.vdst.toNat := by
    rw [← ho.dest f s]
    refine (ho.form f s).dest_first.resolve_left fun hcount => ?_
    rw [ho.dest] at hcount
    simp [hcount] at hi
  rw [hfirst, Nat.add_assoc]
  exact (horder.returned before l after hsplit _ _ hzero).1

/-- A lane whose accesses are admitted acts as if none were ever dropped. -/
theorem Operation.Means.lane_plain {l : Nat} (h : ∀ a ∈ o.shape.accesses f s l, Admitted s (space f) a) :
    o.lane (droppingPort s (space f)) f s l = o.lane plainPort f s l :=
  ho.ports f s l _ _ fun a ha => droppingPort_admitted (h a ha)

end

/-- Two ports with which the active lanes act alike take the same order. -/
theorem TakesOrder.of_lanes {o : Operation} {p q : Port} {f : DsFields} {s t : State} {order : List Nat}
    (h : TakesOrder o p f s t order) (hpq : ∀ l ∈ s.activeLanes, o.lane p f s l = o.lane q f s l) :
    TakesOrder o q f s t order := by
  have hmem : ∀ ls, (∀ l ∈ ls, l ∈ order) → memoryAfter o p f s ls = memoryAfter o q f s ls := fun ls hls =>
    List.foldl_ext _ _ _ fun m l hl => by rw [hpq l (h.lanes.mem_iff.1 (hls l hl))]
  refine ⟨h.lanes, (hmem order fun _ hl => hl).symm ▸ h.memory, fun before l after hsplit i x hx => ?_⟩
  have hl : l ∈ s.activeLanes := h.lanes.mem_iff.1 (by simp [hsplit])
  rw [← hpq l hl, ← hmem before fun k hk => by simp [hsplit, hk]] at hx
  exact h.returned before l after hsplit i x hx

/-- A ready instruction completes, and its lanes act one after another in the order that the supply of choices picks. -/
theorem Operation.Meant.takesOrder {o : Operation} (ho : o.Meant) {f : DsFields} {s : State} (h : Ready o.shape f s)
    (tape : List Nat) : ∃ t, exec (o.shape.instr f) { s with laneTape := tape } = .next t
      ∧ TakesOrder o plainPort f s t { s with laneTape := tape }.laneOrder := by
  obtain ⟨plan, ho⟩ := ho
  have hp := h.passes ho.toCarries
  exact ⟨_, ho.exec_tape h.reading hp tape,
    (ho.takesOrder hp tape).of_lanes fun l hl => ho.lane_plain (h.inRange l hl)⟩

/-- A ready instruction leaves, in the bytes of a lane that meets no other, what that lane's operation makes of the
memory before it. -/
theorem Operation.Meant.alone {o : Operation} (ho : o.Meant) {f : DsFields} {s : State} (h : Ready o.shape f s) :
    ∃ t, exec (o.shape.instr f) s = .next t ∧ ∀ l ∈ s.activeLanes, Alone o.shape f s l →
      ∀ a ∈ o.shape.accesses f s l, ∀ b, Covers a b →
        t.byteAt (space f) b = cellGet (o.lane plainPort f s l (s.mem (space f))).1 b := by
  obtain ⟨plan, ho⟩ := ho
  have hp := h.passes ho.toCarries
  refine ⟨_, ho.exec_tape h.reading hp s.laneTape, fun l hl halone a ha b hb => ?_⟩
  rw [← ho.lane_plain (h.inRange l hl), ← ho.effect]
  refine finish_alone (ho.form f s).isLocal (regsInFile_dest hp.registers) hl ?_ (by rwa [ho.accesses]) hb
  rw [ho.accesses]
  exact halone

theorem atomicOperations_meant (o : Operation) (ho : o ∈ atomicOperations) : o.Meant :=
  memoryOperations_meant o (List.mem_append_left _ (List.mem_append_left _ ho))

/-- Other contents in the space that is not selected stay there, and change nothing else of the outcome (R45). -/
theorem exec_setMem (i : Instr) (s : State) {sp : Space} (m : Memory) (hsp : sp ≠ space i.fields) :
    exec i (s.setMem sp m) = mapNext (fun t => t.setMem sp m) (exec i s) := by
  obtain ⟨mn, f, rfl⟩ : ∃ (mn : Mnemonic) (f : DsFields), i = mn.instr f := ⟨_, _, (instr_mnemonic_fields i).symm⟩
  rw [fields_instr] at hsp
  rcases mnemonic_cases mn with hmn | hmn | rfl
  · obtain ⟨sh, hsh, rfl⟩ := List.mem_map.1 hmn
    obtain ⟨o, hmem, rfl⟩ := List.mem_map.1 hsh
    obtain ⟨plan, ho⟩ := memoryOperations_meant o hmem
    rw [← memoryShapes_instr _ hsh, ho.runs, ho.runs, ho.operands f s _ (sameOperands_setMem s sp m),
      runPlanOf_setMem _ hsp]
  · rw [exec_refusedMnemonics mn hmn, exec_refusedMnemonics mn hmn, undescribed, undescribed, setMem_pc]
    rfl
  · change execDsNop f _ = mapNext _ (execDsNop f s)
    unfold execDsNop
    rw [setMem_params]
    split
    · cases sp <;> rfl
    · rw [undescribed, undescribed, setMem_pc]
      rfl

end Sys2Proof.Claims

namespace Sys2Proof.Machine

/-! ## One dword atomic, lane after lane -/

theorem data0_dword (f : DsFields) (s : State) (l : Nat) : data0 32 f s l = s.vreg f.vdata0.toNat l :=
  (Claims.data0_eq_operand (.inl rfl) ..).trans (Claims.operand_dword ..)

theorem data1_dword (f : DsFields) (s : State) (l : Nat) : data1 32 f s l = s.vreg f.vdata1.toNat l :=
  (Claims.data1_eq_operand (.inl rfl) ..).trans (Claims.operand_dword ..)

/-- What a dword atomic with function `op` makes of the old value in lane `l`. -/
def dwordOp (op : Word → Word → Word → Word) (f : DsFields) (s : State) (l : Nat) (x : Word) : Word :=
  op x (s.vreg f.vdata0.toNat l) (s.vreg f.vdata1.toNat l)

section
variable {two rtn : Bool} (op : Word → Word → Word → Word) {f : DsFields} {s : State} {l : Nat}

/-- A lane of a dword atomic replaces the dword of its access. -/
theorem rmwPlan_effect_admitted (h : s.admits (space f) (access 4 f s l) = true) (m : Memory) :
    ((rmwPlan 32 two rtn op f s).effect l m).1 = replaceDword (dwordOp op f s l) (access 4 f s l).ea m := by
  simp only [rmwPlan, State.storeAt, State.loadAt, data0_dword, data1_dword, if_pos h]
  rfl

theorem rmwPlan_effect_dropped (h : ¬ s.admits (space f) (access 4 f s l) = true) (m : Memory) :
    ((rmwPlan 32 two rtn op f s).effect l m).1 = m := by
  simp only [rmwPlan, State.storeAt]
  exact if_neg h

end

/-- Two dword accesses are to one address or share no byte. -/
theorem access_ea_eq_or_disjoint (f : DsFields) (s : State) (k l : Nat) :
    (access 4 f s k).ea = (access 4 f s l).ea
      ∨ (access 4 f s k).ea + 4 ≤ (access 4 f s l).ea ∨ (access 4 f s l).ea + 4 ≤ (access 4 f s k).ea := by
  simp only [Access.ea, access_width, alignDown]
  omega

/-! ## Orders that make no difference (R59 item 2) -/

/-- Two memories hold the same bytes. -/
def SameBytes (m m2 : Memory) : Prop := ∀ b, cellGet m b = cellGet m2 b

/-- Steps that respect the bytes of a memory and change places leave the same bytes in every order. -/
theorem sameBytes_foldl_perm {step : Memory → Nat → Memory}
    (hcongr : ∀ l m m2, SameBytes m m2 → SameBytes (step m l) (step m2 l))
    (hcomm : ∀ k l m, SameBytes (step (step m k) l) (step (step m l) k)) {ls ls2 : List Nat} (hp : ls.Perm ls2)
    (m : Memory) : SameBytes (ls.foldl step m) (ls2.foldl step m) := by
  have hfold : ∀ (ks : List Nat) (m m2 : Memory), SameBytes m m2 → SameBytes (ks.foldl step m) (ks.foldl step m2) := by
    intro ks
    induction ks with
    | nil => exact fun _ _ h => h
    | cons k rest ih => exact fun m m2 h => ih _ _ (hcongr k m m2 h)
  induction hp generalizing m with
  | nil => exact fun _ => rfl
  | cons l _ ih => exact ih _
  | swap k l rest => exact hfold rest _ _ (hcomm l k m)
  | trans _ _ ih1 ih2 => exact fun b => (ih1 m b).trans (ih2 m b)

/-- Applications of `op` to one value can change places. -/
def AnyOrder (op : Word → Word → Word → Word) : Prop :=
  ∀ x d0 d1 e0 e1, op (op x d0 d1) e0 e1 = op (op x e0 e1) d0 d1

section
variable {op : Word → Word → Word → Word} (f : DsFields) (s : State)

/-- One lane of a dword atomic does the same to memories with the same bytes. -/
theorem rmwPlan_effect_congr (l : Nat) {m m2 : Memory} (h : SameBytes m m2) :
    SameBytes ((rmwPlan 32 false false op f s).effect l m).1 ((rmwPlan 32 false false op f s).effect l m2).1 := by
  intro b
  by_cases ha : s.admits (space f) (access 4 f s l) = true
  · rw [rmwPlan_effect_admitted op ha, rmwPlan_effect_admitted op ha, cellGet_replaceDword, cellGet_replaceDword,
      dwordAt_congr h, h]
  · rw [rmwPlan_effect_dropped op ha, rmwPlan_effect_dropped op ha, h]

/-- Two lanes of such an atomic can change places, whether or not they collide. -/
theorem rmwPlan_effect_comm (hop : AnyOrder op) (k l : Nat) (m : Memory) :
    SameBytes ((rmwPlan 32 false false op f s).effect l ((rmwPlan 32 false false op f s).effect k m).1).1
      ((rmwPlan 32 false false op f s).effect k ((rmwPlan 32 false false op f s).effect l m).1).1 := by
  intro b
  by_cases hk : s.admits (space f) (access 4 f s k) = true
  · by_cases hl : s.admits (space f) (access 4 f s l) = true
    · simp only [rmwPlan_effect_admitted op hk, rmwPlan_effect_admitted op hl]
      rcases access_ea_eq_or_disjoint f s k l with hea | hdisjoint
      · rw [hea, cellGet_replaceDword_twice, cellGet_replaceDword_twice]
        simp only [dwordOp]
        exact congrArg (fun g => cellGet (replaceDword g _ m) b) (funext fun x => hop x _ _ _ _)
      · exact cellGet_replaceDword_disjoint _ _ hdisjoint.symm m b
    · simp only [rmwPlan_effect_dropped op hl]
  · simp only [rmwPlan_effect_dropped op hk]

end

/-! The nine functions of R59 item 2. -/

theorem anyOrder_add : AnyOrder Alu.add := fun _ _ _ _ _ => add_right_comm ..

theorem anyOrder_sub : AnyOrder Alu.sub := fun _ _ _ _ _ => sub_right_comm ..

theorem anyOrder_and : AnyOrder Alu.and := fun _ _ _ _ _ => by simp only [Alu.and]; ac_rfl

theorem anyOrder_or : AnyOrder Alu.or := fun _ _ _ _ _ => by simp only [Alu.or]; ac_rfl

theorem anyOrder_xor : AnyOrder Alu.xor := fun _ _ _ _ _ => by simp only [Alu.xor]; ac_rfl

/-- Keeping the lesser of two values in a linear order. -/
theorem anyOrder_lesser {r : Word → Word → Prop} [DecidableRel r] (total : ∀ a b, r a b ∨ r b a)
    (trans : ∀ a b c, r a b → r b c → r a c) (antisymm : ∀ a b, r a b → r b a → a = b) :
    AnyOrder (fun x d _ => if r x d then x else d) := by
  intro x d _ e _
  by_cases hd : r x d
  · by_cases he : r x e
    · simp only [hd, he, if_true]
    · have hed : r e d := trans e x d ((total x e).resolve_left he) hd
      simp only [hd, he, hed, if_true, if_false]
  · by_cases he : r x e
    · have hde : r d e := trans d x e ((total x d).resolve_left hd) he
      simp only [hd, he, hde, if_true, if_false]
    · simp only [hd, he, if_false]
      by_cases hde : r d e
      · by_cases hed : r e d
        · simp only [antisymm d e hde hed, ite_self]
        · simp only [hde, hed, if_true, if_false]
      · simp only [hde, (total d e).resolve_left hde, if_true, if_false]

theorem anyOrder_minS : AnyOrder Alu.minS :=
  anyOrder_lesser (r := fun a b => a.toInt ≤ b.toInt) (fun _ _ => le_total ..) (fun _ _ _ => le_trans)
    fun _ _ h h2 => BitVec.eq_of_toInt_eq (le_antisymm h h2)

theorem anyOrder_maxS : AnyOrder Alu.maxS :=
  anyOrder_lesser (r := fun a b => b.toInt ≤ a.toInt) (fun _ _ => le_total ..) (fun _ _ _ h h2 => le_trans h2 h)
    fun _ _ h h2 => BitVec.eq_of_toInt_eq (le_antisymm h2 h)

theorem anyOrder_minU : AnyOrder Alu.minU :=
  anyOrder_lesser (r := fun a b => a ≤ b) (fun _ _ => BitVec.le_total ..) (fun _ _ _ => BitVec.le_trans)
    fun _ _ => BitVec.le_antisymm

theorem anyOrder_maxU : AnyOrder Alu.maxU :=
  anyOrder_lesser (r := fun a b => b ≤ a) (fun _ _ => BitVec.le_total ..) (fun _ _ _ h h2 => BitVec.le_trans h2 h)
    fun _ _ h h2 => BitVec.le_antisymm h2 h

end Sys2Proof.Machine

namespace Sys2Proof.Claims

open Sys2Proof.Machine

/-- The instruction runs the described dword atomic of the function `op`, without `VDATA1` and without return. -/
def RunsDwordOp (i : DsFields → Instr) (op : Word → Word → Word → Word) : Prop :=
  ∃ m, ∀ f s, exec (i f) s = runPlan m (space f) (rmwPlan 32 false false op f s) s

theorem orderFreeAtomics_anyOrder : ∀ i ∈ orderFreeAtomics, ∃ op, RunsDwordOp i op ∧ AnyOrder op := by
  simp only [orderFreeAtomics, List.forall_mem_cons]
  exact ⟨⟨_, ⟨_, fun _ _ => rfl⟩, anyOrder_add⟩, ⟨_, ⟨_, fun _ _ => rfl⟩, anyOrder_sub⟩,
    ⟨_, ⟨_, fun _ _ => rfl⟩, anyOrder_minS⟩, ⟨_, ⟨_, fun _ _ => rfl⟩, anyOrder_maxS⟩,
    ⟨_, ⟨_, fun _ _ => rfl⟩, anyOrder_minU⟩, ⟨_, ⟨_, fun _ _ => rfl⟩, anyOrder_maxU⟩,
    ⟨_, ⟨_, fun _ _ => rfl⟩, anyOrder_and⟩, ⟨_, ⟨_, fun _ _ => rfl⟩, anyOrder_or⟩,
    ⟨_, ⟨_, fun _ _ => rfl⟩, anyOrder_xor⟩, List.forall_mem_nil _⟩

section
variable {i : DsFields → Instr} {op : Word → Word → Word → Word} {f : DsFields} {s : State}

theorem Ready.dwordOp_passes (h : Ready (rmwShape i false 32 false false) f s) :
    (rmwPlan 32 false false op f s).Passes (space f) s where
  registers := (regsInFile_iff _ _).2 h.registers
  m0 := h.m0
  sources := (firstUnwritten_none _ _).2 h.values
  range := (firstOutOfRange_none ..).2 fun _ l hl a ha => (admits_iff _ _ _).2 (h.inRange l hl a ha)

theorem RunsDwordOp.passes (hi : RunsDwordOp i op) {t : State} (h : exec (i f) s = .next t) :
    (rmwPlan 32 false false op f s).Passes (space f) s
      ∧ t = (rmwPlan 32 false false op f s).finish (space f) s := by
  obtain ⟨m, hm⟩ := hi
  exact passes_of_runPlan ((hm f s).symm.trans h)

/-- Whatever the memories and the choices of order, it completes with the state its plan leaves. -/
theorem RunsDwordOp.completes (hi : RunsDwordOp i op) (hp : (rmwPlan 32 false false op f s).Passes (space f) s)
    {u : State} (hu : SameOperands s u) :
    exec (i f) u = .next ((rmwPlan 32 false false op f s).finish (space f) u) := by
  obtain ⟨m, hm⟩ := hi
  rw [hm, hu.rmwPlan]
  exact runPlan_passes (hp.sameOperands hu) m

/-- The memory left is that of the lanes' replacements one after another. -/
theorem Ready.dwordOp_mem (h : Ready (rmwShape i false 32 false false) f s) {u : State} (hu : SameOperands s u) :
    ((rmwPlan 32 false false op f s).finish (space f) u).mem (space f)
      = u.laneOrder.foldl (fun m l => replaceDword (dwordOp op f s l) (access 4 f s l).ea m) (u.mem (space f)) := by
  rw [finish_mem]
  refine List.foldl_ext _ _ _ fun m l hl => rmwPlan_effect_admitted op ((admits_iff _ _ _).2 ?_) m
  rw [mem_laneOrder, hu.activeLanes] at hl
  exact h.inRange l hl _ List.mem_cons_self

/-- For each order of the active lanes there is a choice under which a dword atomic takes it. -/
theorem Ready.dwordOp_order (h : Ready (rmwShape i false 32 false false) f s) (hi : RunsDwordOp i op) {order : List Nat}
    (hperm : order.Perm s.activeLanes) :
    ∃ c t, exec (i f) { s with laneTape := [c] } = .next t ∧ t.mem (space f)
      = order.foldl (fun m l => replaceDword (dwordOp op f s l) (access 4 f s l).ea m) (s.mem (space f)) := by
  obtain ⟨c, rfl⟩ := exists_permute hperm
  have hu := sameOperands_laneTape s [c]
  refine ⟨c, _, hi.completes h.dwordOp_passes hu, (h.dwordOp_mem hu).trans ?_⟩
  cases space f <;> rfl

/-- Of two lanes of `DS_RSUB_U32` on one dword, `k` may be first and `l` second. -/
theorem Ready.rsub_two_lanes (h : Ready (rmwShape .dsRsubU32 false 32 false false) f s) {k l : Nat}
    (hperm : [k, l].Perm s.activeLanes) (hea : (access 4 f s k).ea = (access 4 f s l).ea) :
    ∃ c t, exec (.dsRsubU32 f) { s with laneTape := [c] } = .next t ∧ dword t (space f) (access 4 f s k).ea
      = s.vreg f.vdata0.toNat l - (s.vreg f.vdata0.toNat k - dword s (space f) (access 4 f s k).ea) := by
  obtain ⟨c, t, hexec, hmem⟩ := h.dwordOp_order (op := Alu.rsub) ⟨_, fun _ _ => rfl⟩ hperm
  refine ⟨c, t, hexec, ?_⟩
  rw [dword, hmem, List.foldl_cons, List.foldl_cons, List.foldl_nil, ← hea]
  exact (dwordAt_replaceDword ..).trans (congrArg _ (dwordAt_replaceDword ..))

/-- Executed twice with one active lane: the dword is replaced, and replaced again. -/
theorem Ready.dwordOp_twice (h : Ready (rmwShape i false 32 false false) f s) (hi : RunsDwordOp i op) {l : Nat}
    (hl : s.activeLanes = [l]) :
    ∃ t u, exec (i f) s = .next t ∧ exec (i f) t = .next u
      ∧ t.mem (space f) = replaceDword (dwordOp op f s l) (access 4 f s l).ea (s.mem (space f))
      ∧ u.mem (space f) = replaceDword (dwordOp op f s l) (access 4 f s l).ea (t.mem (space f))
      ∧ ∀ sp, sp ≠ space f → t.mem sp = s.mem sp ∧ u.mem sp = t.mem sp := by
  have hp : (rmwPlan 32 false false op f s).Passes (space f) s := h.dwordOp_passes
  have hs := SameOperands.refl s
  have ht : SameOperands s ((rmwPlan 32 false false op f s).finish (space f) s) :=
    finish_sameOperands fun _ _ => rfl
  have horder : ∀ u, SameOperands s u → u.laneOrder = [l] := fun u hu =>
    List.perm_singleton.1 (hl ▸ hu.activeLanes ▸ laneOrder_perm u)
  refine ⟨_, _, hi.completes hp hs, hi.completes hp ht, ?_, ?_, fun sp hsp =>
    ⟨finish_mem_ne _ _ _ hsp, finish_mem_ne _ _ _ hsp⟩⟩
  · rw [h.dwordOp_mem hs, horder s hs]
    rfl
  · rw [h.dwordOp_mem ht, horder _ ht]
    rfl

end

/-! Applied twice with the same data: the old value is back, or nothing more changes. -/

theorem applied_twice_restores : ∀ i ∈ ([.dsRsubU32, .dsXorB32] : List (DsFields → Instr)),
    ∃ op, RunsDwordOp i op ∧ ∀ x d e, op (op x d e) d e = x := by
  simp only [List.forall_mem_cons]
  refine ⟨⟨Alu.rsub, ⟨_, fun _ _ => rfl⟩, fun x d _ => sub_sub_cancel d x⟩, ⟨Alu.xor, ⟨_, fun _ _ => rfl⟩, ?_⟩,
    List.forall_mem_nil _⟩
  intro x d _
  simp only [Alu.xor, BitVec.xor_assoc, BitVec.xor_self, BitVec.xor_zero]

theorem select_twice (p : Word → Word → Prop) [DecidableRel p] (x d : Word) :
    (if p (if p x d then x else d) d then if p x d then x else d else d) = if p x d then x else d := by
  by_cases h : p x d
  · simp only [h, if_true]
  · simp only [h, if_false, ite_self]

theorem applied_twice_is_once : ∀ i ∈ ([.dsMinI32, .dsMaxI32, .dsMinU32, .dsMaxU32, .dsAndB32, .dsOrB32] :
    List (DsFields → Instr)), ∃ op, RunsDwordOp i op ∧ ∀ x d e, op (op x d e) d e = op x d e := by
  simp only [List.forall_mem_cons]
  exact ⟨⟨Alu.minS, ⟨_, fun _ _ => rfl⟩, fun x d _ => select_twice (fun a b => a.toInt ≤ b.toInt) x d⟩,
    ⟨Alu.maxS, ⟨_, fun _ _ => rfl⟩, fun x d _ => select_twice (fun a b => b.toInt ≤ a.toInt) x d⟩,
    ⟨Alu.minU, ⟨_, fun _ _ => rfl⟩, fun x d _ => select_twice (fun a b => a ≤ b) x d⟩,
    ⟨Alu.maxU, ⟨_, fun _ _ => rfl⟩, fun x d _ => select_twice (fun a b => b ≤ a) x d⟩,
    ⟨Alu.and, ⟨_, fun _ _ => rfl⟩, fun x d _ => by simp only [Alu.and, BitVec.and_assoc, BitVec.and_self]⟩,
    ⟨Alu.or, ⟨_, fun _ _ => rfl⟩, fun x d _ => by simp only [Alu.or, BitVec.or_assoc, BitVec.or_self]⟩,
    List.forall_mem_nil _⟩

end Sys2Proof.Claims

/-! ## The statements -/

namespace Sys2Proof.Proofs

open Sys2Proof.Machine Sys2Proof.Claims

/-- Settles O20: neither the checks nor the lanes read or write the space that is not selected. -/
theorem unselectedMemoryIsSeparate : Obligations.UnselectedMemoryIsSeparate := by
  intro i s sp m hsp
  rw [exec_setMem i s m hsp]
  cases exec i s <;> rfl

/-- Settles O40: the order is the one the machine's choice picks. -/
theorem atomicsRunTheLanesInSomeOrder : Obligations.AtomicsRunTheLanesInSomeOrder := by
  intro o ho f s h
  obtain ⟨t, hexec, horder⟩ := (atomicOperations_meant o ho).takesOrder h s.laneTape
  exact ⟨t, _, hexec, horder⟩

/-- Settles O41: every permutation is picked by some number, which is the choice to supply. -/
theorem everyLaneOrderIsPossible : Obligations.EveryLaneOrderIsPossible := by
  intro o ho f s order tape h hperm
  have hmeant : o.Meant := (List.mem_append.1 ho).elim (atomicOperations_meant o) (storeOperations_meant o)
  obtain ⟨c, rfl⟩ := exists_permute hperm
  obtain ⟨t, hexec, horder⟩ := hmeant.takesOrder h (c :: tape)
  exact ⟨c, t, hexec, horder⟩

/-- Settles O42: the lanes' effects change places. -/
theorem orderFreeAtomicsIgnoreTheOrder : Obligations.OrderFreeAtomicsIgnoreTheOrder := by
  intro i hi f s t tape hexec
  obtain ⟨op, hrun, hop⟩ := orderFreeAtomics_anyOrder i hi
  have hu := sameOperands_laneTape s tape
  have hmem : ∀ sp, { s with laneTape := tape }.mem sp = s.mem sp := fun sp => by
    cases sp <;> rfl
  obtain ⟨hp, rfl⟩ := hrun.passes hexec
  refine ⟨_, hrun.completes hp hu, fun sp b => ?_⟩
  by_cases hsp : sp = space f
  · subst hsp
    rw [State.byteAt, State.byteAt, finish_mem, finish_mem, hmem]
    exact sameBytes_foldl_perm (fun l _ _ => rmwPlan_effect_congr f s l) (fun k l => rmwPlan_effect_comm f s hop k l)
      ((laneOrder_perm { s with laneTape := tape }).trans (laneOrder_perm s).symm) _ b
  · rw [State.byteAt, State.byteAt, finish_mem_ne _ _ _ hsp, finish_mem_ne _ _ _ hsp, hmem]

/-- Settles O43: each of the two orders of the lanes can be chosen. -/
theorem reverseSubtractDependsOnTheOrder : Obligations.ReverseSubtractDependsOnTheOrder := by
  intro f s k l h hlanes hea
  refine ⟨h.rsub_two_lanes (hlanes ▸ List.Perm.refl _) hea, ?_⟩
  rw [hea]
  exact h.rsub_two_lanes (hlanes ▸ List.Perm.swap ..) hea.symm

/-- Settles O45: two replacements of one dword are one, by the function applied twice. -/
theorem repeatingAnInstruction : Obligations.RepeatingAnInstruction := by
  refine ⟨fun i hi f s l h hl => ?_, fun i hi f s l h hl => ?_⟩
  · obtain ⟨op, hrun, hop⟩ := applied_twice_restores i hi
    obtain ⟨t, u, ht, hu, hmt, hmu, hother⟩ := h.dwordOp_twice hrun hl
    refine ⟨t, u, ht, hu, fun sp b => ?_⟩
    by_cases hsp : sp = space f
    · subst hsp
      rw [State.byteAt, hmu, hmt, cellGet_replaceDword_twice]
      simp only [dwordOp, hop]
      exact cellGet_replaceDword_id ..
    · rw [State.byteAt, (hother sp hsp).2, (hother sp hsp).1, State.byteAt]
  · obtain ⟨op, hrun, hop⟩ := applied_twice_is_once i hi
    obtain ⟨t, u, ht, hu, hmt, hmu, hother⟩ := h.dwordOp_twice hrun hl
    refine ⟨t, u, ht, hu, fun sp b => ?_⟩
    by_cases hsp : sp = space f
    · subst hsp
      rw [State.byteAt, hmu, hmt, cellGet_replaceDword_twice, State.byteAt, hmt]
      simp only [dwordOp, hop]
      rfl
    · rw [State.byteAt, (hother sp hsp).2, State.byteAt]

/-- Settles O46: the lane's second store is to the dword of its first. -/
theorem secondStoreWins : Obligations.SecondStoreWins := by
  intro f s l
  have hea0 := alignDown_add_mul (addrOf f s l).toNat f.offset0.toNat
  have hea1 := alignDown_add_mul (addrOf f s l).toNat f.offset1.toNat
  have heq : (access0 4 4 f s l).ea = (access1 4 4 f s l).ea ↔ f.offset0 = f.offset1 := by
    simp only [Access.ea, access0, access1, hea0, hea1, BitVec.toNat_eq]
    omega
  refine ⟨heq, fun h hl halone hoff => ?_⟩
  obtain ⟨t, hexec, hbytes⟩ := Operation.Meant.alone (o := store2Operation 32 .dsWrite2B32 false 4) store2_meant h
  refine ⟨t, hexec, ?_⟩
  have hread : memRead (t.mem (space f)) (access0 4 4 f s l).ea 4
      = memRead ((store2Operation 32 .dsWrite2B32 false 4).lane plainPort f s l (s.mem (space f))).1
        (access0 4 4 f s l).ea 4 :=
    memRead_congr fun i hi => hbytes l hl halone _ List.mem_cons_self _ ⟨Nat.le_add_right .., Nat.add_lt_add_left hi _⟩
  rw [dword, hread, heq.2 hoff, ← operand_dword]
  exact dwordAt_memWrite _ _ _

/-- Settles O53: the search over lanes and then over a lane's accesses stops at the access named. -/
theorem outOfRangeStopsLast : Obligations.OutOfRangeStopsLast := by
  rintro sh hsh f s lanes lanes2 l accs accs2 a ⟨hgk, hregs, hne⟩ hm hval hpolicy hlanes haccs hbefore hsame ha
  obtain ⟨plan, hc⟩ := memoryShapes_carry sh hsh
  have hunwritten : (plan f s).firstUnwritten s = none :=
    List.findSome?_eq_none_iff.2 fun k hk => laneUnwritten_none (by rw [hc.sources]; exact hval k hk)
  have hlane : (plan f s).laneOutOfRange (space f) s l = some (s.rangeFault (space f) l a) :=
    laneOutOfRange_some (by rw [hc.accesses, haccs]) (fun b hb => (admits_iff _ _ _).2 (hsame b hb))
      (Bool.eq_false_iff.2 fun h => ha ((admits_iff _ _ _).1 h))
  have hfirst : (plan f s).firstOutOfRange (space f) s = some (s.rangeFault (space f) l a) :=
    firstOutOfRange_some (rangeFaults_of hpolicy) hlanes
      (fun k hk => laneOutOfRange_none fun b hb => (admits_iff _ _ _).2 (hbefore k hk b (by rwa [hc.accesses] at hb)))
      hlane
  rw [hc.runs, runPlanOf_admitted hgk]
  exact runPlan_outOfRange _ ((regsInFile_iff _ _).2 (by rwa [hc.dest, hc.sources])) hne hm hunwritten hfirst

/-- Settles O54: no access ends the run, so the lanes act through accesses that may be dropped. -/
theorem zeroDropReadsZeroAndDropsWrites : Obligations.ZeroDropReadsZeroAndDropsWrites := by
  rintro o hmem f s hpolicy hgds ⟨hgk, hregs, -⟩ hm hval
  have hlds : space f = .lds := by simp [space, hgds]
  rw [← hlds]
  obtain ⟨plan, ho⟩ := memoryOperations_meant o hmem
  have hp : (plan f s).Passes (space f) s := by
    refine ho.passes hregs (fun _ => hm) (fun l hl r hr i hi => hval l hl _ (List.mem_flatMap.2 ⟨r, hr, ?_⟩)) ?_
    · exact List.mem_range'_1.2 ⟨by omega, by omega⟩
    · simp [hlds, rangeFaults_zeroDrop hpolicy]
  have horder := ho.takesOrder hp s.laneTape
  refine ⟨_, _, ho.exec_tape hgk hp s.laneTape, ho.frame hp, horder, fun b hb => ?_, ?_⟩
  · refine finish_byte fun l hl m => (ho.form f s).effect_byte (fun a ha hadm => ?_) m
    exact hb l hl a (by rwa [ho.accesses] at ha) ((admits_iff _ _ _).1 hadm)
  · exact fun l hl j a hj ha i hi => ho.dropped_returns_zero horder hl hj ha hi

/-- Settles O55: each part is a fact about rounding down. -/
theorem effectiveAddresses : Obligations.EffectiveAddresses := by
  intro f s l
  refine ⟨fun n hn => ⟨rfl, alignDown_bounds ?_ _⟩, ofNat_alignDown_four _, alignDown_word_add ..,
    alignDown_word_add ..⟩
  change 0 < n
  fin_cases hn <;> decide

/-- Settles O56: the sum by induction on the width, the bytes from the rules for a store. -/
theorem memoryIsLittleEndian : Obligations.MemoryIsLittleEndian := by
  refine ⟨memRead_eq_sum, fun m a n x b => ?_⟩
  rw [cellGet_memWrite]
  split
  · exact ofNat_div_eq_extractLsb' x (by omega)
  · rfl

/-- Settles O57: the order is the one the machine's choice picks. -/
theorem storesRunTheLanesInSomeOrder : Obligations.StoresRunTheLanesInSomeOrder := by
  intro o ho f s h
  obtain ⟨t, hexec, horder⟩ := (storeOperations_meant o ho).takesOrder h s.laneTape
  exact ⟨t, _, hexec, horder⟩

end Sys2Proof.Proofs

/-! PROOFS of the statements about the encoding (spec/30_encoding.md): the opcode map, the fields of a word, the decoder
against the encoder, the assembler, and the step of a decoded word. -/

/-! ## The opcode map -/

namespace Sys2Proof

/-- A fact about every row, block by block: `decide` on all 152 rows at once recurses too deep. -/
theorem forall_mem_opcodeTable {P : OpcodeRow → Prop} : (∀ r ∈ opcodeTable, P r) ↔
    (∀ r ∈ opcodeRows0, P r) ∧ (∀ r ∈ opcodeRows32, P r) ∧ (∀ r ∈ opcodeRows64, P r) ∧ (∀ r ∈ opcodeRows96, P r)
      ∧ (∀ r ∈ opcodeRows128, P r) ∧ ∀ r ∈ opcodeRows192, P r := by
  simp only [opcodeTable, List.forall_mem_append, and_assoc]

/-- The rows stand in the order of their opcode numbers. -/
theorem opcodeTable_rises : opcodeTable.Pairwise (fun r r2 => r.opcode.toNat < r2.opcode.toNat) := by
  have hchain : opcodeTable.IsChain (fun r r2 => r.opcode.toNat < r2.opcode.toNat) := by
    simp only [opcodeTable, List.isChain_append]
    decide
  exact List.isChain_iff_pairwise.1 hchain

/-- The row of an opcode number is found by it. -/
theorem find?_opcode {r : OpcodeRow} (hr : r ∈ opcodeTable) :
    opcodeTable.find? (fun r2 => r2.opcode == r.opcode) = some r := by
  obtain ⟨rows, rows2, hsplit⟩ := List.append_of_mem hr
  have hrises := opcodeTable_rises
  rw [hsplit, List.pairwise_append] at hrises
  obtain ⟨-, -, hbelow⟩ := hrises
  refine List.find?_eq_some_iff_append.2 ⟨beq_self_eq_true _, rows, rows2, hsplit, fun r2 hr2 => ?_⟩
  have hne : r2.opcode ≠ r.opcode := fun h => (hbelow r2 hr2 r List.mem_cons_self).ne (congrArg BitVec.toNat h)
  simpa using hne

/-- The mnemonic of a row, where a version has one, has the row's opcode number (R81). -/
theorem opcodeOf_of_row (arch : Arch) : ∀ r ∈ opcodeTable,
    (r.on arch).bind (opcodeOf arch) = (r.on arch).map fun _ => r.opcode := by
  rw [forall_mem_opcodeTable]
  cases arch <;> decide

/-- An opcode number selects the mnemonic of its row (R81). -/
theorem mnemonicOf_eq_some_iff {arch : Arch} {op : BitVec 8} {m : Mnemonic} :
    mnemonicOf arch op = some m ↔ ∃ r ∈ opcodeTable, r.opcode = op ∧ r.on arch = some m := by
  constructor
  · intro h
    obtain ⟨r, hfind, hon⟩ := Option.bind_eq_some_iff.1 h
    exact ⟨r, List.mem_of_find?_eq_some hfind, by simpa using List.find?_some hfind, hon⟩
  · rintro ⟨r, hr, rfl, hon⟩
    exact Option.bind_eq_some_iff.2 ⟨r, find?_opcode hr, hon⟩

/-- A mnemonic's opcode number is that of its row (R81). -/
theorem opcodeOf_eq_some_iff {arch : Arch} {m : Mnemonic} {op : BitVec 8} :
    opcodeOf arch m = some op ↔ ∃ r ∈ opcodeTable, r.opcode = op ∧ r.on arch = some m := by
  constructor
  · intro h
    obtain ⟨r, hfind, hop⟩ := Option.map_eq_some_iff.1 h
    exact ⟨r, List.mem_of_find?_eq_some hfind, hop, by simpa using List.find?_some hfind⟩
  · rintro ⟨r, hr, rfl, hon⟩
    simpa [hon] using opcodeOf_of_row arch r hr

theorem opcodeOf_eq_some_iff_mnemonicOf {arch : Arch} {m : Mnemonic} {op : BitVec 8} :
    opcodeOf arch m = some op ↔ mnemonicOf arch op = some m :=
  opcodeOf_eq_some_iff.trans mnemonicOf_eq_some_iff.symm

/-- The mnemonics present on a version are those with a row there (R81, R82). -/
theorem presentOn_iff (arch : Arch) (m : Mnemonic) :
    m.presentOn arch = true ↔ ∃ r ∈ opcodeTable, r.on arch = some m := by
  rw [← List.mem_filterMap]
  cases arch <;> cases m <;> decide

theorem exists_opcodeOf_of_presentOn {arch : Arch} {m : Mnemonic} (h : m.presentOn arch = true) :
    ∃ op, opcodeOf arch m = some op := by
  obtain ⟨r, hr, hon⟩ := (presentOn_iff arch m).1 h
  exact ⟨r.opcode, opcodeOf_eq_some_iff.2 ⟨r, hr, rfl, hon⟩⟩

/-- The numbers without a row are the unlisted ones (R83). -/
theorem exists_row_iff (op : BitVec 8) : (∃ r ∈ opcodeTable, r.opcode = op) ↔ op.toNat ∉ Claims.unlistedOpcodes := by
  constructor
  · rintro ⟨r, hr, rfl⟩
    have hrows : ∀ r ∈ opcodeTable, r.opcode.toNat ∉ Claims.unlistedOpcodes := by
      rw [forall_mem_opcodeTable]
      decide
    exact hrows r hr
  · intro h
    have hall : ∀ op : BitVec 8, op.toNat ∈ Claims.unlistedOpcodes ++ opcodeTable.map (fun r => r.opcode.toNat) := by
      decide
    obtain ⟨r, hr, hop⟩ := List.mem_map.1 ((List.mem_append.1 (hall op)).resolve_left h)
    exact ⟨r, hr, BitVec.eq_of_toNat_eq hop⟩

/-- The rows without an instruction on a version are the gaps listed for it (R83). -/
theorem row_on_eq_none_iff (arch : Arch) :
    ∀ r ∈ opcodeTable, r.on arch = none ↔ r.opcode.toNat ∈ Claims.gapsOn arch := by
  rw [forall_mem_opcodeTable]
  cases arch <;> decide

/-- An opcode number is unassigned on a version when it has no row, or its row has a gap there (R83). -/
theorem mnemonicOf_eq_none_iff (arch : Arch) (op : BitVec 8) :
    mnemonicOf arch op = none ↔ op.toNat ∈ Claims.unlistedOpcodes ∨ op.toNat ∈ Claims.gapsOn arch := by
  by_cases h : op.toNat ∈ Claims.unlistedOpcodes
  · have hrow : ∀ r ∈ opcodeTable, r.opcode ≠ op := by simpa using (exists_row_iff op).not.2 (not_not.2 h)
    have hnone : opcodeTable.find? (fun r => r.opcode == op) = none := by simpa using hrow
    simp [mnemonicOf, hnone, h]
  · obtain ⟨r, hr, rfl⟩ := (exists_row_iff op).2 h
    rw [or_iff_right h, ← row_on_eq_none_iff arch r hr, mnemonicOf, find?_opcode hr, Option.bind_some]

/-- The mnemonics with another opcode on GCN 1.2 (R82 item 5). -/
def movingMnemonics : List Mnemonic := [
  .dsGwsInit, .dsGwsSemaV, .dsGwsSemaBr, .dsGwsSemaP, .dsGwsBarrier, .dsSwizzleB32, .dsConsume, .dsAppend,
  .dsOrderedCount, .dsWriteSrc2B64]

/-- A mnemonic of GCN 1.0 that does not move stands in its row on all versions (R82 item 1). -/
theorem row_on_of_not_moving {r : OpcodeRow} (hr : r ∈ opcodeTable) {m : Mnemonic} (hon : r.on .gcn10 = some m)
    (hm : m ∉ movingMnemonics) (arch : Arch) : r.on arch = some m := by
  have hrows : ∀ r ∈ opcodeTable, r.on .gcn10 ∈ none :: movingMnemonics.map some
      ∨ r.on .gcn11 = r.on .gcn10 ∧ r.on .gcn12 = r.on .gcn10 := by
    rw [forall_mem_opcodeTable]
    decide
  obtain ⟨h11, h12⟩ := (hrows r hr).resolve_left (by simpa [hon] using hm)
  cases arch with
  | gcn10 => exact hon
  | gcn11 => rw [h11, hon]
  | gcn12 => rw [h12, hon]

/-! ## The word and its parts -/

/-- A DS word with bit 16 clear is the word assembled from its parts (R76, R92). -/
theorem assembleWord_fieldsOf (layout : DsLayout) {w : InstrWord} (henc : encodingField w = 0b110110#6)
    (h16 : w.getLsbD 16 = false) : assembleWord layout (opcodeField w) (fieldsOf layout w) = w := by
  cases layout
  have hbit (k : Nat) : BitVec.ofBool (w.getLsbD k) = w.extractLsb' k 1 := by
    ext i hi
    obtain rfl : i = 0 := by omega
    simp
  have hzero : w.extractLsb' 16 1 = 0#1 := by rw [← hbit, h16]; rfl
  simp only [assembleWord, fieldsOf, opcodeField, ← henc, encodingField, ← hzero, hbit,
    BitVec.extractLsb'_append_extractLsb'_eq_extractLsb', BitVec.extractLsb'_eq_self]

/-- `match` of R84 is the word of the opcode with every operand field 0. -/
theorem opcodeMatch_eq_assembleWord (op : BitVec 8) :
    opcodeMatch op = assembleWord .sourceTable op ⟨0, false, 0, 0, 0, 0⟩ := by
  revert op
  decide

theorem encodingField_and_opcodeMask (w : InstrWord) : encodingField (w &&& opcodeMask) = encodingField w := by
  have hmask : opcodeMask.extractLsb' 26 6 = BitVec.allOnes 6 := by decide
  rw [encodingField, BitVec.extractLsb'_and, hmask, BitVec.and_allOnes, encodingField]

theorem opcodeField_and_opcodeMask (w : InstrWord) : opcodeField (w &&& opcodeMask) = opcodeField w := by
  have hmask : opcodeMask.extractLsb' 18 8 = BitVec.allOnes 8 := by decide
  rw [opcodeField, BitVec.extractLsb'_and, hmask, BitVec.and_allOnes, opcodeField]

theorem bit16_and_opcodeMask (w : InstrWord) : (w &&& opcodeMask).getLsbD 16 = false := by
  have hmask : opcodeMask.getLsbD 16 = false := by decide
  rw [BitVec.getLsbD_and, hmask, Bool.and_false]

/-- The mask of R84 clears every operand field. -/
theorem fieldsOf_and_opcodeMask (w : InstrWord) :
    fieldsOf .sourceTable (w &&& opcodeMask) = ⟨0, false, 0, 0, 0, 0⟩ := by
  have hmask : fieldsOf .sourceTable opcodeMask = ⟨0, false, 0, 0, 0, 0⟩ := by decide
  simp only [fieldsOf, DsFields.mk.injEq, BitVec.ofNat_eq_ofNat] at hmask ⊢
  obtain ⟨hoffset, hgds, haddr, hdata0, hdata1, hdst⟩ := hmask
  simp only [BitVec.extractLsb'_and, BitVec.getLsbD_and, hoffset, hgds, haddr, hdata0, hdata1, hdst, BitVec.and_zero,
    Bool.and_false, and_self]

/-- The masked bits of R84 are `ENCODING` and `OPCODE`. -/
theorem and_opcodeMask_eq_iff (w : InstrWord) (op : BitVec 8) :
    w &&& opcodeMask = opcodeMatch op ↔ encodingField w = 0b110110#6 ∧ opcodeField w = op := by
  rw [← encodingField_and_opcodeMask w, ← opcodeField_and_opcodeMask w, opcodeMatch_eq_assembleWord]
  constructor
  · intro h
    rw [h]
    exact ⟨encodingField_assembleWord .., opcodeField_assembleWord ..⟩
  · rintro ⟨henc, rfl⟩
    have h := assembleWord_fieldsOf .sourceTable henc (bit16_and_opcodeMask w)
    rw [fieldsOf_and_opcodeMask] at h
    exact h.symm

/-! The parts of a word as numbers -/

theorem extractLsb'_eq_ofNat_div {n : Nat} (x : BitVec n) (start len : Nat) :
    x.extractLsb' start len = BitVec.ofNat len (x.toNat / 2 ^ start) := by
  rw [← Nat.shiftRight_eq_div_pow]
  rfl

theorem getLsbD_eq_decide_div {n : Nat} (x : BitVec n) (k : Nat) : x.getLsbD k = decide (x.toNat / 2 ^ k % 2 = 1) := by
  rw [BitVec.getLsbD, Nat.testBit_eq_decide_div_mod_eq]

theorem encodingField_eq_iff (w : InstrWord) : encodingField w = 0b110110#6 ↔ w.toNat / 2 ^ 26 % 64 = 0b110110 := by
  rw [encodingField, extractLsb'_eq_ofNat_div, ← BitVec.toNat_inj, BitVec.toNat_ofNat]
  rfl

theorem fieldsOf_eq_ofNat_div (w : InstrWord) : fieldsOf .sourceTable w =
    { offset := BitVec.ofNat 16 w.toNat
      gds := decide (w.toNat / 2 ^ 17 % 2 = 1)
      addr := BitVec.ofNat 8 (w.toNat / 2 ^ 32)
      vdata0 := BitVec.ofNat 8 (w.toNat / 2 ^ 40)
      vdata1 := BitVec.ofNat 8 (w.toNat / 2 ^ 48)
      vdst := BitVec.ofNat 8 (w.toNat / 2 ^ 56) } := by
  simp only [fieldsOf, extractLsb'_eq_ofNat_div, getLsbD_eq_decide_div, pow_zero, Nat.div_one]

theorem bit16_eq_false_iff (w : InstrWord) : w.getLsbD 16 = false ↔ w.toNat / 2 ^ 16 % 2 = 0 := by
  rw [getLsbD_eq_decide_div, decide_eq_false_iff_not]
  omega

/-! The two 8-bit views of the offset (R78) -/

theorem offset_eq_append (f : DsFields) : f.offset = f.offset1 ++ f.offset0 := by
  simp only [DsFields.offset0, DsFields.offset1, BitVec.extractLsb'_append_extractLsb'_eq_extractLsb',
    BitVec.extractLsb'_eq_self]

theorem offset0_toNat (f : DsFields) : f.offset0.toNat = f.offset.toNat % 256 := by
  rw [DsFields.offset0, extractLsb'_eq_ofNat_div, BitVec.toNat_ofNat]
  omega

theorem offset1_toNat (f : DsFields) : f.offset1.toNat = f.offset.toNat / 256 := by
  have hlt := f.offset.isLt
  rw [DsFields.offset1, extractLsb'_eq_ofNat_div, BitVec.toNat_ofNat]
  omega

/-! ## The decoder and the encoder -/

section
variable {layout : DsLayout} {arch : Arch} {w : InstrWord}

theorem decode_notDs (henc : encodingField w ≠ 0b110110#6) : decode layout arch w = .notDs := if_pos henc

/-- Bit 16 is looked at before the opcode (R79, R92). -/
theorem decode_bit16 (henc : encodingField w = 0b110110#6) (h16 : w.getLsbD 16 = true) :
    decode layout arch w = .illegal .bit16 := by
  rw [decode, if_neg (not_not.2 henc), if_pos h16]

theorem decode_unassigned (henc : encodingField w = 0b110110#6) (h16 : w.getLsbD 16 = false)
    (hop : mnemonicOf arch (opcodeField w) = none) : decode layout arch w = .illegal .unassignedOpcode := by
  rw [decode, if_neg (not_not.2 henc), if_neg (Bool.eq_false_iff.1 h16), hop]

theorem decode_assigned (henc : encodingField w = 0b110110#6) (h16 : w.getLsbD 16 = false) {m : Mnemonic}
    (hop : mnemonicOf arch (opcodeField w) = some m) : decode layout arch w = .ds (m.instr (fieldsOf layout w)) := by
  rw [decode, if_neg (not_not.2 henc), if_neg (Bool.eq_false_iff.1 h16), hop]

/-- Which words decode to an instruction, and to which (R92). -/
theorem decode_eq_ds_iff {i : Instr} : decode layout arch w = .ds i ↔
    encodingField w = 0b110110#6 ∧ w.getLsbD 16 = false ∧ mnemonicOf arch (opcodeField w) = some i.mnemonic
      ∧ i.fields = fieldsOf layout w := by
  constructor
  · intro h
    by_cases henc : encodingField w = 0b110110#6
    · cases h16 : w.getLsbD 16 with
      | true => simp [decode_bit16 henc h16] at h
      | false =>
        cases hop : mnemonicOf arch (opcodeField w) with
        | none => simp [decode_unassigned henc h16 hop] at h
        | some m =>
          rw [decode_assigned henc h16 hop, Decoded.ds.injEq] at h
          subst h
          exact ⟨henc, rfl, by rw [mnemonic_instr], fields_instr ..⟩
    · simp [decode_notDs henc] at h
  · rintro ⟨henc, h16, hop, hf⟩
    rw [decode_assigned henc h16 hop, ← hf, instr_mnemonic_fields]

theorem encode_eq_some_iff {i : Instr} : encode layout arch i = some w ↔
    ∃ op, opcodeOf arch i.mnemonic = some op
      ∧ assembleWord layout op (i.fields.clearUnused i.mnemonic.operandClass.uses) = w :=
  Option.map_eq_some_iff

theorem unusedFieldsZero_iff (i : Instr) :
    i.unusedFieldsZero = true ↔ i.fields.clearUnused i.mnemonic.operandClass.uses = i.fields :=
  beq_iff_eq

end

/-! ## The assembler -/

/-- A modifier that is no error is the field of its value (R89). -/
theorem toNat_of_modifierValue {width : Nat} {v : Option Nat} {x : BitVec width} (h : modifierValue width v = some x) :
    x.toNat = v.getD 0 := by
  cases v with
  | none =>
    cases h
    simp
  | some n =>
    rw [modifierValue] at h
    split at h
    · next hn =>
      cases h
      exact Nat.mod_eq_of_lt hn
    · cases h

/-- The registers of a line that is no error: each in the field of its place, and 0 in the fields the class does not use,
once the offset and `GDS` are filled in; `NONE` alone uses neither of those (R80, R88). -/
theorem registers_eq_some {l : AsmLine} {f : DsFields} (h : l.registers = some f) :
    l.regs = Claims.registerOperands l.mnemonic.operandClass.uses f
      ∧ ∀ o g, (l.mnemonic.operandClass = .noOperands → o = 0 ∧ g = false) →
        { f with offset := o, gds := g }.clearUnused l.mnemonic.operandClass.uses = { f with offset := o, gds := g } := by
  unfold AsmLine.registers at h
  split at h
  · next hall =>
    have hfield : ∀ n ∈ l.regs, n % 256 = n := fun n hn =>
      Nat.mod_eq_of_lt (of_decide_eq_true (List.all_eq_true.1 hall n hn))
    split at h
    case h_12 => cases h
    all_goals
      rename_i hclass hregs
      cases h
      simp only [hregs, List.forall_mem_cons] at hfield
      simp [hclass, hregs, OperandClass.uses, Claims.registerOperands, DsFields.clearUnused, hfield]
  · cases h

/-- The offset of a line that is no error is the value of its modifiers, each 0 where omitted (R78, R88, R89). -/
theorem offsetField_eq_some {l : AsmLine} {o : BitVec 16} (h : l.offsetField = some o) :
    if l.mnemonic.operandClass.twoOffsets then
      (o.extractLsb' 0 8).toNat = l.offset0.getD 0 ∧ (o.extractLsb' 8 8).toNat = l.offset1.getD 0
    else o.toNat = l.offset.getD 0 := by
  unfold AsmLine.offsetField at h
  split at h <;> rename_i htwo
  · split at h
    · next o0 o1 _ h0 h1 =>
      cases h
      rw [if_pos htwo, BitVec.extractLsb'_append_eq_right, BitVec.extractLsb'_append_eq_left]
      exact ⟨toNat_of_modifierValue h0, toNat_of_modifierValue h1⟩
    · cases h
  · rw [if_neg htwo]
    split at h
    · exact toNat_of_modifierValue h
    · cases h

/-- What a line that is no error assembles to. -/
theorem assemble_eq_some {l : AsmLine} {i : Instr} (h : assemble l = some i) :
    ∃ f o, l.registers = some f ∧ l.offsetField = some o ∧ i = l.mnemonic.instr { f with offset := o, gds := l.gds }
      ∧ (l.mnemonic.operandClass = .noOperands → l.gds = false ∧ l.offset = none) := by
  unfold assemble at h
  split at h
  · cases h
  · next hextra =>
    split at h
    · next f o hf ho =>
      cases h
      exact ⟨f, o, hf, ho, rfl, fun hc => by simpa [AsmLine.extraModifier, hc] using hextra⟩
    · cases h

end Sys2Proof

namespace Sys2Proof.Machine

/-! ## The step of a fetched word -/

section
variable {s : State} {w : InstrWord}

theorem step_of_ds (hw : s.fetch = .word w) {i : Instr} (hd : decode s.params.layout s.params.arch w = .ds i) :
    step s = exec i s := by
  simp only [step, hw, hd]

theorem step_of_illegal (hw : s.fetch = .word w) {reason : IllegalReason}
    (hd : decode s.params.layout s.params.arch w = .illegal reason) :
    step s = .fault (.illegalEncoding s.pc w reason) := by
  simp only [step, hw, hd]

theorem step_of_notDs (hw : s.fetch = .word w) (hd : decode s.params.layout s.params.arch w = .notDs) :
    step s = .fault (.illegalEncoding s.pc w .notDs) := by
  simp only [step, hw, hd]

/-- At a word of the program the fetch reads it (R321). -/
theorem fetch_atProgramWord (h : Claims.AtProgramWord s) : s.fetch = .word (s.wordAt s.pc) := by
  obtain ⟨hstart, hend⟩ := h
  rw [State.fetch, if_neg (by omega), if_pos ⟨hstart, hend⟩]

/-- Eight bytes that hold a word, least significant first, are read as it (R85). -/
theorem wordAt_of_holdsWord {a : Nat} (h : Claims.HoldsWord s.imem a w) : s.wordAt a = w := by
  have hbytes : memRead s.imem a 8 = memRead (memWrite s.imem a 8 w.toNat) a 8 := by
    refine memRead_congr fun k hk => ?_
    rw [cellGet_memWrite_inside _ _ _ _ _ hk, h k hk, extractLsb'_eq_ofNat_div, pow_mul]
    rfl
  have hlt : w.toNat < 256 ^ 8 := w.isLt
  rw [State.wordAt, hbytes, memRead_memWrite_self, Nat.mod_eq_of_lt hlt, BitVec.ofNat_toNat, BitVec.setWidth_eq]

end

end Sys2Proof.Machine

/-! ## The statements -/

namespace Sys2Proof.Proofs

open Sys2Proof.Machine Sys2Proof.Claims

/-- Settles O1: the mnemonic's opcode number selects it again, and the word holds the fields, of which clearing the
unused ones changes none. -/
theorem decodeOfEncode : Obligations.DecodeOfEncode := by
  rintro layout arch i ⟨hunused, hpresent⟩
  obtain ⟨op, hop⟩ := exists_opcodeOf_of_presentOn hpresent
  rw [unusedFieldsZero_iff] at hunused
  refine ⟨assembleWord layout op i.fields, encode_eq_some_iff.2 ⟨op, hop, by rw [hunused]⟩, decode_eq_ds_iff.2 ?_⟩
  rw [opcodeField_assembleWord, fieldsOf_assembleWord]
  exact ⟨encodingField_assembleWord .., bit16_assembleWord .., opcodeOf_eq_some_iff_mnemonicOf.1 hop, rfl⟩

/-- Settles O2: the encoder writes the word's own opcode, and its fields with the unused ones cleared. -/
theorem encodeOfDecode : Obligations.EncodeOfDecode := by
  intro layout arch w i h
  obtain ⟨henc, h16, hm, hf⟩ := decode_eq_ds_iff.1 h
  have hop := opcodeOf_eq_some_iff_mnemonicOf.2 hm
  rw [encode_eq_some_iff, unusedFieldsZero_iff]
  constructor
  · rintro ⟨op, -, hw⟩
    rw [← fieldsOf_assembleWord layout op (i.fields.clearUnused _), hw, hf]
  · intro hunused
    exact ⟨_, hop, by rw [hunused, hf, assembleWord_fieldsOf layout henc h16]⟩

/-- Settles O3: each part of the word is a quotient's remainder. -/
theorem decodeReadsTheFields : Obligations.DecodeReadsTheFields := by
  intro arch w i
  rw [decode_eq_ds_iff, encodingField_eq_iff, bit16_eq_false_iff, opcodeField, extractLsb'_eq_ofNat_div,
    fieldsOf_eq_ofNat_div]

/-- Settles O4: the masked bits are those the decoder looks at, and one opcode has the mnemonic. -/
theorem matchAndMaskSelectTheInstruction : Obligations.MatchAndMaskSelectTheInstruction := by
  intro arch w m op hop h16
  rw [and_opcodeMask_eq_iff]
  constructor
  · rintro ⟨i, hd, rfl⟩
    obtain ⟨henc, -, hm, -⟩ := decode_eq_ds_iff.1 hd
    rw [opcodeOf_eq_some_iff_mnemonicOf.2 hm] at hop
    exact ⟨henc, Option.some.inj hop⟩
  · rintro ⟨henc, rfl⟩
    exact ⟨_, decode_assigned henc h16 (opcodeOf_eq_some_iff_mnemonicOf.1 hop), mnemonic_instr ..⟩

/-- Settles O5: a word with bit 16 set is no DS word, or is rejected before its opcode is looked at. -/
theorem bitSixteenIsZeroOrIllegal : Obligations.BitSixteenIsZeroOrIllegal := by
  refine ⟨fun layout arch i w h => ?_, fun layout arch w => decode_bit16, fun s w hw h16 => ?_⟩
  · obtain ⟨op, -, rfl⟩ := encode_eq_some_iff.1 h
    exact bit16_assembleWord ..
  · by_cases henc : encodingField w = 0b110110#6
    · exact ⟨.bit16, step_of_illegal hw (decode_bit16 henc h16)⟩
    · exact ⟨.notDs, step_of_notDs hw (decode_notDs henc)⟩

/-- Settles O6: a number without a row, or with a gap in its row, selects no mnemonic. -/
theorem unassignedOpcodesAreIllegal : Obligations.UnassignedOpcodesAreIllegal := by
  refine ⟨by decide, mnemonicOf_eq_none_iff, fun s w hw henc h16 hop => ?_⟩
  have hd : decode s.params.layout s.params.arch w = .illegal .unassignedOpcode :=
    decode_unassigned henc h16 ((mnemonicOf_eq_none_iff ..).2 hop)
  exact ⟨hd, step_of_illegal hw hd⟩

/-- Settles O7: both say that a row of the table holds the mnemonic under the opcode. -/
theorem opcodeMapIsOneToOne : Obligations.OpcodeMapIsOneToOne := fun _ _ _ => opcodeOf_eq_some_iff_mnemonicOf

/-- Settles O10: the registers, the offset and `GDS` come from the parts of the line, and `DS_NOP`, which uses neither of
the last two, takes neither. -/
theorem assembledTermsSayWhatTheLineSays : Obligations.AssembledTermsSayWhatTheLineSays := by
  intro line i h
  obtain ⟨f, o, hregs, hoff, rfl, hnone⟩ := assemble_eq_some h
  obtain ⟨hline, hcleared⟩ := registers_eq_some hregs
  rw [unusedFieldsZero_iff, mnemonic_instr, fields_instr]
  have hvalue := offsetField_eq_some hoff
  refine ⟨rfl, hcleared _ _ fun hclass => ?_, rfl, hline, hvalue⟩
  obtain ⟨hgds, hmod⟩ := hnone hclass
  have hzero : o.toNat = 0 := by simpa [hclass, OperandClass.twoOffsets, hmod] using hvalue
  exact ⟨BitVec.eq_of_toNat_eq hzero, hgds⟩

/-- Settles O8: the lists are checked entry by entry; a mnemonic on none of them has one row for all versions. -/
theorem versionDifferences : Obligations.VersionDifferences := by
  refine ⟨by decide, by decide, by decide, by decide, fun m hm hmoves => ?_⟩
  obtain ⟨r, hr, hon⟩ := (presentOn_iff .gcn10 m).1 hm
  have hsame (arch : Arch) : opcodeOf arch m = some r.opcode :=
    opcodeOf_eq_some_iff.2 ⟨r, hr, rfl, row_on_of_not_moving hr hon hmoves arch⟩
  simp only [hsame, Option.isSome_some, and_self]

/-- Settles O9: both halves are remainders of the low 16 bits. -/
theorem offsetHalvesAreTheLowBytes : Obligations.OffsetHalvesAreTheLowBytes := by
  intro layout w
  have hlow : (fieldsOf layout w).offset.toNat = w.toNat % 2 ^ 16 := by
    rw [fieldsOf_eq_ofNat_div, BitVec.toNat_ofNat]
  refine ⟨offset_eq_append _, ?_, ?_⟩
  · rw [offset0_toNat, hlow]
    omega
  · rw [offset1_toNat, hlow]
    omega

/-- Settles O11, by running the decoder on each word. -/
theorem encodingExamplesDecode : Obligations.EncodingExamplesDecode := by
  refine ⟨?_, ?_, ?_, ?_, ?_⟩ <;> decide

/-- Settles O12: the fetch reads the word the eight bytes hold. -/
theorem stepRunsTheDecodedInstruction : Obligations.StepRunsTheDecodedInstruction := by
  intro s w i hpc hbytes hd
  have hw : s.fetch = .word w := by rw [fetch_atProgramWord hpc, wordAt_of_holdsWord hbytes]
  exact step_of_ds hw hd

end Sys2Proof.Proofs

/-! PROOFS of the statements about the 32-bit atomics without return (spec/40_ds_atomic_32.md): what a lane that meets
no other leaves, for every instruction that accesses memory, and the lanes of one dword added up. -/

namespace Sys2Proof.Machine

/-- A lane that shares no byte with another returns what its effect makes of the memory before the instruction. -/
theorem finish_alone_returned {plan : LanePlan} {sp : Space} {s : State} (hp : plan.Local)
    (hd : plan.dest.inFile s.params = true) {l : Nat} (hl : l ∈ s.activeLanes)
    (halone : ∀ k ∈ s.activeLanes, k ≠ l → ∀ a ∈ plan.accesses l, ∀ c ∈ plan.accesses k, Claims.Apart a c)
    {i : Nat} {x : Word} (hx : (plan.effect l (s.mem sp)).2[i]? = some x) :
    (plan.finish sp s).vreg (plan.dest.first + i) l = x
      ∧ (plan.finish sp s).holdsValue (plan.dest.first + i) l = true := by
  obtain ⟨hi, rfl⟩ := List.getElem?_eq_some_iff.1 hx
  rw [LanePlan.finish, if_neg (List.ne_nil_of_mem hl)]
  refine (runLanes_lane hp hd s l hl fun k hk hne m a ha b hb => hp.outside k m b fun c hc hcb => ?_).2 i hi
  have := halone k hk hne a ha c hc
  unfold Claims.Apart at this
  unfold Access.Reaches at hb hcb
  omega

/-- Replacements of one dword, one after another, apply their functions to it one after another. -/
theorem dwordAt_foldl_replaceDword (g : Nat → Word → Word) {ea : Nat → Nat} {a : Nat} {ls : List Nat}
    (h : ∀ l ∈ ls, ea l = a) (m : Memory) :
    dwordAt (ls.foldl (fun m l => replaceDword (g l) (ea l) m) m) a = ls.foldl (fun x l => g l x) (dwordAt m a) := by
  induction ls generalizing m with
  | nil => rfl
  | cons l rest ih =>
    obtain ⟨hl, hrest⟩ := List.forall_mem_cons.1 h
    rw [List.foldl_cons, List.foldl_cons, ih hrest, hl, dwordAt_replaceDword]

end Sys2Proof.Machine

namespace Sys2Proof.Claims

open Sys2Proof.Machine

/-! ## The result of a lane that meets no other -/

/-- Lane `l` has had the result its operation has on the memory before the instruction: in the bytes it reaches, and in
its destination registers. -/
structure LaneResult (o : Operation) (f : DsFields) (s t : State) (l : Nat) : Prop where
  bytes : ∀ a ∈ o.shape.accesses f s l, ∀ b, Covers a b →
    t.byteAt (space f) b = cellGet (o.lane plainPort f s l (s.mem (space f))).1 b
  returned : ∀ (i : Nat) (x : Word), (o.lane plainPort f s l (s.mem (space f))).2[i]? = some x →
    t.vreg (f.vdst.toNat + i) l = x ∧ t.holdsValue (f.vdst.toNat + i) l = true

/-- What is read back through one of the lane's accesses. -/
theorem LaneResult.memRead_eq {o : Operation} {f : DsFields} {s t : State} {l : Nat} (h : LaneResult o f s t l)
    {a : Access} (ha : a ∈ o.shape.accesses f s l) :
    memRead (t.mem (space f)) a.ea a.width
      = memRead (o.lane plainPort f s l (s.mem (space f))).1 a.ea a.width :=
  memRead_congr fun _ hi => h.bytes a ha _ ⟨Nat.le_add_right .., Nat.add_lt_add_left hi _⟩

theorem LaneResult.dword_eq {o : Operation} {f : DsFields} {s t : State} {l : Nat} (h : LaneResult o f s t l)
    {a : Access} (ha : a ∈ o.shape.accesses f s l) (hw : a.width = 4) :
    dword t (space f) a.ea = dwordAt (o.lane plainPort f s l (s.mem (space f))).1 a.ea := by
  rw [dword, ← hw, h.memRead_eq ha, hw, dwordAt]

/-- A ready instruction completes with its frame kept, and a lane that meets no other has its operation's result. -/
theorem Operation.Meant.runs {o : Operation} (ho : o.Meant) :
    Runs o.shape fun f s t l => Alone o.shape f s l → LaneResult o f s t l := by
  obtain ⟨plan, ho⟩ := ho
  intro f s h
  have hp := h.passes ho.toCarries
  have hlocal := (ho.form f s).isLocal
  have hdest := regsInFile_dest hp.registers
  refine ⟨_, ho.exec_tape h.reading hp s.laneTape, ho.frame hp, fun l hl halone => ?_⟩
  have hlane : (plan f s).effect l (s.mem (space f)) = o.lane plainPort f s l (s.mem (space f)) := by
    rw [ho.effect, ho.lane_plain (h.inRange l hl)]
  have hapart : ∀ k ∈ s.activeLanes, k ≠ l → ∀ a ∈ (plan f s).accesses l, ∀ c ∈ (plan f s).accesses k, Apart a c := by
    rw [ho.accesses]
    exact halone
  refine ⟨fun a ha b hb => ?_, fun i x hx => ?_⟩
  · rw [← hlane]
    exact finish_alone hlocal hdest hl hapart (by rwa [ho.accesses]) hb
  · rw [← hlane] at hx
    rcases (ho.form f s).dest_first with hzero | hfirst
    · have hcount := (List.getElem?_eq_some_iff.1 hx).1
      rw [hlocal.count] at hcount
      omega
    · rw [← hfirst]
      exact finish_alone_returned hlocal hdest hl hapart hx

/-- A result that follows from what an instruction is known to run with. -/
theorem Runs.imp {sh : Shape} {p q : DsFields → State → State → Nat → Prop} (h : Runs sh p)
    (hpq : ∀ f s t l, p f s t l → q f s t l) : Runs sh q := by
  intro f s hready
  obtain ⟨t, hexec, hframe, hres⟩ := h f s hready
  exact ⟨t, hexec, hframe, fun l hl => hpq f s t l (hres l hl)⟩

section
variable {instr : DsFields → Instr} {gk two rtn : Bool} {g : Word → Word → Word → Word} (f : DsFields) (s : State)
  (l : Nat) (m : Memory)

/-- A lane of a 32-bit read-modify-write replaces the dword of its access. -/
theorem rmwOperation_lane_memory : ((rmwOperation 32 instr gk two rtn g).lane plainPort f s l m).1
    = replaceDword (dwordOp g f s l) (access 4 f s l).ea m := by
  simp only [rmwOperation, operand_dword]
  rfl

/-- It returns the dword it replaces. -/
theorem rmwOperation_lane_returned : ((rmwOperation 32 instr gk two true g).lane plainPort f s l m).2
    = [dwordAt m (access 4 f s l).ea] :=
  dwordsOf_eq_toWords ..

end

/-- A 32-bit read-modify-write stores `g` of the dword it reads, and returns that dword. -/
theorem Operation.Meant.rmw32 {instr : DsFields → Instr} {gk two rtn : Bool} {g : Word → Word → Word → Word}
    (ho : (rmwOperation 32 instr gk two rtn g).Meant) : Rmw32 instr gk two rtn g := by
  refine ho.runs.imp fun f s t l hres halone => ?_
  have hlane := hres halone
  constructor
  · have hread := hlane.dword_eq (List.mem_singleton_self (access 4 f s l)) rfl
    rw [rmwOperation_lane_memory, dwordAt_replaceDword] at hread
    exact hread
  · rintro rfl
    exact hlane.returned 0 _ (by rw [rmwOperation_lane_returned]; rfl)

/-! ## The sum of the lanes -/

/-- When every active lane addresses one dword, it takes the lanes' functions one after another. -/
theorem Ready.dwordOp_same_dword {i : DsFields → Instr} {op : Word → Word → Word → Word} {f : DsFields} {s : State}
    (h : Ready (rmwShape i false 32 false false) f s) {ea : Nat} (hea : ∀ l ∈ s.activeLanes, (access 4 f s l).ea = ea) :
    dword ((rmwPlan 32 false false op f s).finish (space f) s) (space f) ea
      = s.laneOrder.foldl (fun x l => dwordOp op f s l x) (dword s (space f) ea) := by
  rw [dword, h.dwordOp_mem (SameOperands.refl s)]
  exact dwordAt_foldl_replaceDword _ (fun l hl => hea l ((mem_laneOrder s l).1 hl)) _

/-- Adding the values of a list one after another adds their sum. -/
theorem foldl_add_eq_add_sum (d : Nat → Word) (ls : List Nat) (x : Word) :
    ls.foldl (fun x l => x + d l) x = x + (ls.map d).sum := by
  induction ls generalizing x with
  | nil => exact (add_zero x).symm
  | cons l rest ih => rw [List.foldl_cons, ih, List.map_cons, List.sum_cons, add_assoc]

end Sys2Proof.Claims

/-! ## The statements -/

namespace Sys2Proof.Proofs

open Sys2Proof.Machine Sys2Proof.Claims

/-- Settles O22: each is the read-modify-write of its function. -/
theorem addSubtractIncrementDecrement32 : Obligations.AddSubtractIncrementDecrement32 :=
  ⟨(rmw_meant rfl).rmw32, (rmw_meant rfl).rmw32, (rmw_meant rfl).rmw32, (rmw_meant alu_inc_eq).rmw32,
    (rmw_meant alu_dec_eq).rmw32⟩

/-- Settles O23: each is the read-modify-write of its function, signed or unsigned. -/
theorem minimumMaximum32 : Obligations.MinimumMaximum32 :=
  ⟨(rmw_meant alu_minS_eq).rmw32, (rmw_meant alu_maxS_eq).rmw32, (rmw_meant alu_minU_eq).rmw32,
    (rmw_meant alu_maxU_eq).rmw32⟩

/-- Settles O24: each is the read-modify-write of its function, and `DS_MSKOR_B32` reads `VDATA1` too. -/
theorem bitwise32 : Obligations.Bitwise32 :=
  ⟨(rmw_meant rfl).rmw32, (rmw_meant rfl).rmw32, (rmw_meant rfl).rmw32, (rmw_meant rfl).rmw32⟩

/-- Settles O25: the read-modify-write of the comparison, where the reading is admitted. -/
theorem compareStore32 : Obligations.CompareStore32 := (rmw_meant rfl).rmw32

/-- Settles O44: the lanes add one after another in some order, and the sum is the same in every order. -/
theorem addSumsTheLanes : Obligations.AddSumsTheLanes := by
  intro f s ea h hea
  have hrun : RunsDwordOp .dsAddU32 Alu.add := ⟨_, fun _ _ => rfl⟩
  refine ⟨_, hrun.completes h.dwordOp_passes (SameOperands.refl s), ?_⟩
  calc dword ((rmwPlan 32 false false Alu.add f s).finish (space f) s) (space f) ea
    _ = s.laneOrder.foldl (fun x l => x + s.vreg f.vdata0.toNat l) (dword s (space f) ea) :=
        h.dwordOp_same_dword hea
    _ = dword s (space f) ea + (s.laneOrder.map (fun l => s.vreg f.vdata0.toNat l)).sum := foldl_add_eq_add_sum ..
    _ = dword s (space f) ea + (s.activeLanes.map (fun l => s.vreg f.vdata0.toNat l)).sum :=
        congrArg _ ((laneOrder_perm s).map _).sum_eq

end Sys2Proof.Proofs

/-! PROOFS of the statements about the stores (spec/41_ds_write.md): the bytes a lane that meets no other stores, at one
address and at two, and the lane that stores last where several store to one dword. -/

namespace Sys2Proof.Machine

/-! ## Values of any width in memory -/

/-- The `w`-bit value at an address of a memory, for `w` a whole number of bytes. -/
def valueAt (w : Nat) (m : Memory) (a : Nat) : BitVec w := BitVec.ofNat w (memRead m a (w / 8))

/-- A value that has been stored is read back. -/
theorem valueAt_memWrite {w : Nat} (hw : 8 ∣ w) (m : Memory) (a : Nat) (x : BitVec w) :
    valueAt w (memWrite m a (w / 8) x.toNat) a = x := by
  have hsize : 256 ^ (w / 8) = 2 ^ w := by
    rw [show 256 = 2 ^ 8 from rfl, ← pow_mul, Nat.mul_div_cancel' hw]
  rw [valueAt, memRead_memWrite_self, hsize, Nat.mod_eq_of_lt x.isLt, BitVec.ofNat_toNat, BitVec.setWidth_eq]

/-- A store leaves the value at an address it shares no byte with. -/
theorem valueAt_memWrite_disjoint {w a n b : Nat} (m : Memory) (x : Nat) (h : b + w / 8 ≤ a ∨ a + n ≤ b) :
    valueAt w (memWrite m a n x) b = valueAt w m b := by
  rw [valueAt, memRead_memWrite_disjoint _ _ h, valueAt]

/-- Two accesses of one width are to one address or share no byte (R47, R50): both addresses are multiples of it. -/
theorem apart_of_ea_ne {a b : Access} (hw : a.width = b.width) (hne : a.ea ≠ b.ea) : Claims.Apart a b := by
  unfold Claims.Apart
  simp only [Access.ea, alignDown, hw] at hne ⊢
  rcases Nat.lt_or_gt_of_ne fun h => hne (congrArg (· * b.width) h) with hlt | hlt
  · exact .inl (Nat.succ_mul .. ▸ Nat.mul_le_mul_right b.width hlt)
  · exact .inr (Nat.succ_mul .. ▸ Nat.mul_le_mul_right b.width hlt)

end Sys2Proof.Machine

namespace Sys2Proof.Claims

open Sys2Proof.Machine

theorem operand_qword (s : State) (r l : Nat) : operand 64 s r l = vpair s r l := BitVec.setWidth_eq _

theorem dword_eq_valueAt (s : State) (sp : Space) (a : Nat) : dword s sp a = valueAt 32 (s.mem sp) a := rfl

theorem qword_eq_valueAt (s : State) (sp : Space) (a : Nat) : qword s sp a = valueAt 64 (s.mem sp) a := rfl

/-- The value read back through one of the lane's accesses is the one its operation leaves there. -/
theorem LaneResult.valueAt_eq {o : Operation} {f : DsFields} {s t : State} {l : Nat} (h : LaneResult o f s t l)
    {a : Access} (ha : a ∈ o.shape.accesses f s l) {w : Nat} (hw : a.width = w / 8) :
    valueAt w (t.mem (space f)) a.ea = valueAt w (o.lane plainPort f s l (s.mem (space f))).1 a.ea := by
  rw [valueAt, ← hw, h.memRead_eq ha, hw, valueAt]

/-! ## A lane that meets no other -/

section
variable {instr : DsFields → Instr} {gk : Bool}

/-- A store with one address leaves the low bytes of its data registers in the bytes of its access. -/
theorem Operation.Meant.store {k n : Nat} (ho : (storeOperation instr gk k n).Meant)
    {data : DsFields → State → Nat → Nat}
    (hdata : ∀ f s l, (operand (32 * k) s f.vdata0.toNat l).toNat = data f s l) : Store instr gk k n data := by
  refine ho.runs.imp fun f s t l hres halone i hi => ?_
  rw [← hdata]
  calc t.byteAt (space f) ((access n f s l).ea + i)
    _ = cellGet ((storeOperation instr gk k n).lane plainPort f s l (s.mem (space f))).1 ((access n f s l).ea + i) :=
        (hres halone).bytes _ (List.mem_singleton_self _) _ ⟨Nat.le_add_right .., Nat.add_lt_add_left hi _⟩
    _ = BitVec.ofNat 8 ((operand (32 * k) s f.vdata0.toNat l).toNat / 256 ^ i) :=
        cellGet_memWrite_inside _ _ _ _ _ hi

/-- Two stores in statement order: `D1` stands at the second address, and `D0` at the first unless the second store was
to it too (R58, log entry 17). -/
theorem Operation.Meant.store2 {w scale : Nat} (ho : (store2Operation w instr gk scale).Meant) (hw : 8 ∣ w) :
    Runs (store2Shape instr gk w scale) fun f s t l => Alone (store2Shape instr gk w scale) f s l →
      valueAt w (t.mem (space f)) (access1 scale (w / 8) f s l).ea = operand w s f.vdata1.toNat l
      ∧ ((access0 scale (w / 8) f s l).ea ≠ (access1 scale (w / 8) f s l).ea →
        valueAt w (t.mem (space f)) (access0 scale (w / 8) f s l).ea = operand w s f.vdata0.toNat l) := by
  refine ho.runs.imp fun f s t l hres halone => ?_
  have hlane := hres halone
  constructor
  · have hmem : access1 scale (w / 8) f s l ∈ (store2Shape instr gk w scale).accesses f s l :=
      List.mem_cons_of_mem _ (List.mem_singleton_self _)
    have hsecond := hlane.valueAt_eq hmem rfl
    exact hsecond.trans (valueAt_memWrite hw ..)
  · intro hne
    have hfirst := hlane.valueAt_eq (List.mem_cons_self (a := access0 scale (w / 8) f s l)) rfl
    have hapart : Apart (access0 scale (w / 8) f s l) (access1 scale (w / 8) f s l) := apart_of_ea_ne rfl hne
    exact hfirst.trans ((valueAt_memWrite_disjoint _ _ hapart).trans (valueAt_memWrite hw ..))

/-- The two stores of dwords. -/
theorem Operation.Meant.store2Dwords {scale : Nat} (ho : (store2Operation 32 instr gk scale).Meant) :
    Store2Dwords instr gk scale := by
  refine (ho.store2 (by decide)).imp fun f s t l hres halone => ?_
  simp only [dword_eq_valueAt, ← operand_dword]
  exact hres halone

/-- The two stores of register pairs. -/
theorem Operation.Meant.store2Qwords {scale : Nat} (ho : (store2Operation 64 instr true scale).Meant) :
    Store2Qwords instr scale := by
  refine (ho.store2 (by decide)).imp fun f s t l hres halone => ?_
  simp only [qword_eq_valueAt, ← operand_qword]
  exact hres halone

end

/-! ## Lanes on one dword -/

/-- Whatever the lanes before it store, the lane that stores last leaves its data in the dword it addresses (R59). -/
theorem TakesOrder.dword_of_last {instr : DsFields → Instr} {gk : Bool} {f : DsFields} {s t : State} {before : List Nat}
    {l : Nat} (h : TakesOrder (storeOperation instr gk 1 4) plainPort f s t (before ++ [l])) :
    dword t (space f) (access 4 f s l).ea = s.vreg f.vdata0.toNat l := by
  rw [dword, h.memory, memoryAfter, List.foldl_concat, ← operand_dword]
  exact dwordAt_memWrite ..

/-- Any of some lanes can be the last in an order of them. -/
theorem erase_concat_perm {l : Nat} {ls : List Nat} (h : l ∈ ls) : (ls.erase l ++ [l]).Perm ls :=
  (List.perm_append_singleton ..).trans (List.perm_cons_erase h).symm

end Sys2Proof.Claims

/-! ## The statements -/

namespace Sys2Proof.Proofs

open Sys2Proof.Machine Sys2Proof.Claims

/-- Settles O26: each stores the low bytes of one data register, or of a pair. -/
theorem stores : Obligations.Stores := by
  have hdword : ∀ (f : DsFields) s l, (operand (32 * 1) s f.vdata0.toNat l).toNat = (s.vreg f.vdata0.toNat l).toNat :=
    fun _ _ _ => congrArg _ (operand_dword ..)
  have hqword : ∀ (f : DsFields) s l, (operand (32 * 2) s f.vdata0.toNat l).toNat = (vpair s f.vdata0.toNat l).toNat :=
    fun _ _ _ => congrArg _ (operand_qword ..)
  exact ⟨(store_meant).store hdword, (store_meant).store hdword, (store_meant).store hdword, (store_meant).store hqword⟩

/-- Settles O27: the second store wins where both are to one dword, and misses the first dword otherwise. -/
theorem twoDwordStores : Obligations.TwoDwordStores := (store2_meant).store2Dwords

/-- Settles O28: as for O27, on dwords and on register pairs. -/
theorem wideAndStridedTwoAddressStores : Obligations.WideAndStridedTwoAddressStores :=
  ⟨(store2_meant).store2Dwords, (store2_meant).store2Qwords, (store2_meant).store2Qwords⟩

/-- Settles O58: the last lane of the order taken is active, and an order in which a given lane is last can be
chosen. -/
theorem collidingStoresLeaveAnyLanesData : Obligations.CollidingStoresLeaveAnyLanesData := by
  intro f s ea h hne hea
  have hmem : storeOperation .dsWriteB32 false 1 4 ∈ storeOperations := List.mem_cons_self
  constructor
  · obtain ⟨t, order, hexec, htakes⟩ := storesRunTheLanesInSomeOrder _ hmem f s h
    have hsome : order ≠ [] := by
      rintro rfl
      exact hne htakes.lanes.nil_eq.symm
    obtain ⟨before, l, rfl⟩ := (List.eq_nil_or_concat' order).resolve_left hsome
    have hl : l ∈ s.activeLanes := htakes.lanes.mem_iff.1 (by simp)
    exact ⟨t, hexec, l, hl, hea l hl ▸ htakes.dword_of_last⟩
  · intro l hl
    obtain ⟨c, t, hexec, htakes⟩ :=
      everyLaneOrderIsPossible _ (List.mem_append_right _ hmem) f s _ [] h (erase_concat_perm hl)
    exact ⟨c, t, hexec, hea l hl ▸ htakes.dword_of_last⟩

end Sys2Proof.Proofs

/-! PROOFS of the statements about the 32-bit atomics that return (spec/42_ds_atomic_rtn_32.md): the read-modify-writes,
and the two exchanges of one lane, the second of which sees the first. -/

namespace Sys2Proof.Machine

/-- After a store through one access, what another of its width reads: the stored value if both are to one address. -/
theorem valueAt_ea_memWrite {w : Nat} (hw : 8 ∣ w) {a b : Access} (ha : a.width = w / 8) (hb : b.width = w / 8)
    (m : Memory) (x : BitVec w) :
    valueAt w (memWrite m a.ea (w / 8) x.toNat) b.ea = if a.ea = b.ea then x else valueAt w m b.ea := by
  split
  · rename_i heq
    rw [heq, valueAt_memWrite hw]
  · rename_i hne
    have hapart : b.ea + b.width ≤ a.ea ∨ a.ea + a.width ≤ b.ea := apart_of_ea_ne (hb.trans ha.symm) (Ne.symm hne)
    rw [ha, hb] at hapart
    exact valueAt_memWrite_disjoint m _ hapart

end Sys2Proof.Machine

namespace Sys2Proof.Claims

open Sys2Proof.Machine

/-! ## Two exchanges -/

section
variable {w scale : Nat} {instr : DsFields → Instr} {f : DsFields} {s t : State} {l : Nat}

/-- Two exchanges leave `D1` at the second address, and `D0` at the first where the second exchange was elsewhere. -/
theorem LaneResult.exchange2_memory (h : LaneResult (exchange2Operation w instr scale) f s t l) (hw : 8 ∣ w) :
    valueAt w (t.mem (space f)) (access1 scale (w / 8) f s l).ea = operand w s f.vdata1.toNat l
      ∧ ((access0 scale (w / 8) f s l).ea ≠ (access1 scale (w / 8) f s l).ea →
        valueAt w (t.mem (space f)) (access0 scale (w / 8) f s l).ea = operand w s f.vdata0.toNat l) := by
  have hmem : access1 scale (w / 8) f s l ∈ (exchange2Operation w instr scale).shape.accesses f s l :=
    List.mem_cons_of_mem _ (List.mem_singleton_self _)
  have hsecond := h.valueAt_eq hmem rfl
  have hfirst := h.valueAt_eq (List.mem_cons_self (a := access0 scale (w / 8) f s l)) rfl
  refine ⟨hsecond.trans (valueAt_memWrite hw ..), fun hne => ?_⟩
  calc valueAt w (t.mem (space f)) (access0 scale (w / 8) f s l).ea
    _ = valueAt w (memWrite (s.mem (space f)) (access0 scale (w / 8) f s l).ea (w / 8)
          (operand w s f.vdata0.toNat l).toNat) (access0 scale (w / 8) f s l).ea :=
        hfirst.trans ((valueAt_ea_memWrite hw rfl rfl ..).trans (if_neg hne.symm))
    _ = operand w s f.vdata0.toNat l := valueAt_memWrite hw ..

/-- Two exchanges of dwords return the dword at the first address, and then the one at the second as the first exchange
has left it: `D0` where both are to one address (log entry 17). -/
theorem exchange2Operation_lane_returned (m : Memory) :
    ((exchange2Operation 32 instr scale).lane plainPort f s l m).2
      = [valueAt 32 m (access0 scale 4 f s l).ea,
          if (access0 scale 4 f s l).ea = (access1 scale 4 f s l).ea then s.vreg f.vdata0.toNat l
          else valueAt 32 m (access1 scale 4 f s l).ea] := by
  rw [← operand_dword, ← valueAt_ea_memWrite (by decide) rfl rfl]
  exact congrArg₂ (· ++ ·) (dwordsOf_eq_toWords 1 _) (dwordsOf_eq_toWords 1 _)

/-- The two exchanges of dwords. -/
theorem Operation.Meant.exchange2Dwords (ho : (exchange2Operation 32 instr scale).Meant) :
    Exchange2Dwords instr scale := by
  refine ho.runs.imp fun f s t l hres halone => ?_
  have hlane := hres halone
  obtain ⟨hsecond, hfirst⟩ := hlane.exchange2_memory (by decide)
  obtain ⟨hold0, hholds0⟩ := hlane.returned 0 _ (by rw [exchange2Operation_lane_returned]; rfl)
  obtain ⟨hold1, hholds1⟩ := hlane.returned 1 _ (by rw [exchange2Operation_lane_returned]; rfl)
  rw [operand_dword] at hsecond hfirst
  refine ⟨hsecond, hold0, ?_, hholds0, hholds1⟩
  split
  · rename_i heq
    exact hold1.trans (if_pos heq)
  · rename_i hne
    exact ⟨hold1.trans (if_neg hne), hfirst hne⟩

end

end Sys2Proof.Claims

/-! ## The statements -/

namespace Sys2Proof.Proofs

open Sys2Proof.Machine Sys2Proof.Claims

/-- Settles O29: each is the read-modify-write of its function, and returns the dword it replaces. -/
theorem returningArithmetic32 : Obligations.ReturningArithmetic32 :=
  ⟨(rmw_meant rfl).rmw32, (rmw_meant rfl).rmw32, (rmw_meant rfl).rmw32, (rmw_meant alu_inc_eq).rmw32,
    (rmw_meant alu_dec_eq).rmw32, (rmw_meant alu_minS_eq).rmw32, (rmw_meant alu_maxS_eq).rmw32,
    (rmw_meant alu_minU_eq).rmw32, (rmw_meant alu_maxU_eq).rmw32⟩

/-- Settles O30: as for O29, and the exchange is the read-modify-write that ignores the old dword. -/
theorem returningBitwiseExchangeCompare32 : Obligations.ReturningBitwiseExchangeCompare32 :=
  ⟨(rmw_meant rfl).rmw32, (rmw_meant rfl).rmw32, (rmw_meant rfl).rmw32, (rmw_meant rfl).rmw32, (rmw_meant rfl).rmw32,
    (rmw_meant rfl).rmw32⟩

/-- Settles O31: the second exchange of a lane sees the first, so it returns `D0` where both are to one dword. -/
theorem twoDwordExchanges : Obligations.TwoDwordExchanges :=
  ⟨(exchange2_meant).exchange2Dwords, (exchange2_meant).exchange2Dwords⟩

end Sys2Proof.Proofs

/-! PROOFS of the statements about the loads (spec/43_ds_read.md): no lane changes what another reads, so every active
lane returns the bytes that stand before the instruction, extended to a dword or cut into dwords. -/

namespace Sys2Proof.Machine

/-! ## Values in bytes and in dwords -/

/-- A value cut in two stands with its low bits on the right. -/
theorem ofNat_div_append_ofNat (w v x : Nat) :
    BitVec.ofNat w (x / 2 ^ v) ++ BitVec.ofNat v x = BitVec.ofNat (w + v) x := by
  refine BitVec.eq_of_getLsbD_eq fun i hi => ?_
  rw [BitVec.getLsbD_append, BitVec.getLsbD_ofNat, BitVec.getLsbD_ofNat, BitVec.getLsbD_ofNat, Nat.testBit_div_two_pow]
  by_cases h : i < v
  · simp [h, hi]
  · have hhigh : i - v < w := by omega
    simp [h, hi, hhigh, Nat.sub_add_cancel (not_lt.1 h)]

/-- An access of one byte is to its sum: no low bit is cleared (R50). -/
theorem ea_of_width_one {a : Access} (h : a.width = 1) : a.ea = a.sum := by
  rw [Access.ea, alignDown, h, Nat.div_one, Nat.mul_one]

theorem valueAt_byte (m : Memory) (a : Nat) : valueAt 8 m a = cellGet m a := by
  simpa [valueAt] using ofNat_memRead_div m a Nat.one_pos

/-- Two bytes are read low byte first (R54). -/
theorem valueAt_two_bytes (m : Memory) (a : Nat) : valueAt 16 m a = cellGet m (a + 1) ++ cellGet m a := by
  have hhigh : BitVec.ofNat 8 (memRead m a 2 / 2 ^ 8) = cellGet m (a + 1) := ofNat_memRead_div m a (i := 1) (by decide)
  have hlow : BitVec.ofNat 8 (memRead m a 2) = cellGet m a := by
    simpa using ofNat_memRead_div m a (n := 2) (i := 0) (by decide)
  rw [← hhigh, ← hlow, ofNat_div_append_ofNat]
  rfl

/-- Zero extension of the value read is the number read (R175, R177). -/
theorem ofNat_memRead_eq_setWidth {w : Nat} (hw : 8 ∣ w) (m : Memory) (a : Nat) :
    BitVec.ofNat 32 (memRead m a (w / 8)) = (valueAt w m a).setWidth 32 := by
  have hlt : memRead m a (w / 8) < 2 ^ w := by
    calc memRead m a (w / 8)
      _ < 256 ^ (w / 8) := memRead_lt ..
      _ = 2 ^ w := by rw [show 256 = 2 ^ 8 from rfl, ← pow_mul, Nat.mul_div_cancel' hw]
  rw [← BitVec.ofNat_toNat, valueAt, BitVec.toNat_ofNat, Nat.mod_eq_of_lt hlt]

end Sys2Proof.Machine

namespace Sys2Proof.Claims

open Sys2Proof.Machine

/-! ## What a load returns -/

/-- The dword of a signed load is the sign extension of the value read (R174, R176). -/
theorem ofNat_signExtended (w : Nat) (m : Memory) (a : Nat) :
    BitVec.ofNat 32 (signExtended w (memRead m a (w / 8))) = (valueAt w m a).signExtend 32 := by
  rw [signExtended, BitVec.ofNat_toNat, BitVec.setWidth_eq, valueAt]

/-- A ready load completes with its frame kept, and every active lane has its operation's result: whichever lanes come
before it, they leave memory as it was. -/
theorem Operation.Meant.runs_load {o : Operation} (ho : o.Meant) (hload : o.shape.stores = false) :
    Runs o.shape fun f s t l => LaneResult o f s t l := by
  have hkeeps : ∀ p f s l m, (o.lane p f s l m).1 = m := by
    obtain ⟨_, ho⟩ := ho
    exact ho.loads hload
  intro f s h
  obtain ⟨t, hexec, hframe, -⟩ := ho.runs f s h
  obtain ⟨_, hexec2, horder⟩ := ho.takesOrder h s.laneTape
  injection hexec.symm.trans hexec2 with hsame
  subst hsame
  refine ⟨t, hexec, hframe, fun l hl => ⟨fun a ha b hb => ?bytes, ?returned⟩⟩
  case bytes =>
    rw [hkeeps]
    exact hframe.otherBytes b fun hstores => absurd (hload.symm.trans hstores) Bool.false_ne_true
  case returned =>
    obtain ⟨before, after, hsplit⟩ := List.append_of_mem (horder.lanes.mem_iff.2 hl)
    have hmemory : memoryAfter o plainPort f s before = s.mem (space f) := List.foldl_fixed' (fun _ => hkeeps ..) _
    rw [← hmemory]
    exact horder.returned before l after hsplit

section
variable {o : Operation} {f : DsFields} {s t : State} {l : Nat} (h : LaneResult o f s t l)
include h

/-- Every register a lane returns a dword into holds a value. -/
theorem LaneResult.holdsValue {i : Nat} (hi : i < (o.lane plainPort f s l (s.mem (space f))).2.length) :
    t.holdsValue (f.vdst.toNat + i) l = true :=
  (h.returned i _ (List.getElem?_eq_getElem hi)).2

/-- Where a lane returns the two dwords of a value, they stand in a register pair (R27). -/
theorem LaneResult.vpair_eq {i x : Nat}
    (hlow : (o.lane plainPort f s l (s.mem (space f))).2[i]? = some (BitVec.ofNat 32 x))
    (hhigh : (o.lane plainPort f s l (s.mem (space f))).2[i + 1]? = some (BitVec.ofNat 32 (x / 2 ^ 32))) :
    vpair t (f.vdst.toNat + i) l = BitVec.ofNat 64 x := by
  rw [vpair, (h.returned i _ hlow).1, Nat.add_assoc, (h.returned (i + 1) _ hhigh).1, ofNat_div_append_ofNat]

end

section
variable {instr : DsFields → Instr} {scale : Nat}

/-- A load returns the extended number it reads, low dword first. -/
theorem loadOperation_lane_returned (k n : Nat) (ext : Nat → Nat) (f : DsFields) (s : State) (l : Nat) (m : Memory) :
    ((loadOperation instr k n ext).lane plainPort f s l m).2 = toWords k (ext (memRead m (access n f s l).ea n)) :=
  dwordsOf_eq_toWords ..

/-- Two loads return the numbers they read, the one at the first address in the lower-numbered registers. -/
theorem load2Operation_lane_returned (w : Nat) (f : DsFields) (s : State) (l : Nat) (m : Memory) :
    ((load2Operation w instr scale).lane plainPort f s l m).2
      = toWords (w / 32) (memRead m (access0 scale (w / 8) f s l).ea (w / 8))
        ++ toWords (w / 32) (memRead m (access1 scale (w / 8) f s l).ea (w / 8)) :=
  congrArg₂ (· ++ ·) (dwordsOf_eq_toWords ..) (dwordsOf_eq_toWords ..)

/-- A load into one register leaves there the dword that its extension makes of the number read. -/
theorem Operation.Meant.load {n : Nat} {ext : Nat → Nat} (ho : (loadOperation instr 1 n ext).Meant)
    {value : DsFields → State → Nat → Word}
    (hvalue : ∀ f s l, BitVec.ofNat 32 (ext (memRead (s.mem (space f)) (access n f s l).ea n)) = value f s l) :
    Load instr n value := by
  refine (ho.runs_load rfl).imp fun f s t l hlane => ?_
  rw [← hvalue]
  exact hlane.returned 0 _ (by rw [loadOperation_lane_returned]; rfl)

/-- A load of 64 bits into a register pair. -/
theorem Operation.Meant.loadQword (ho : (loadOperation instr 2 8 id).Meant) :
    Runs (loadShape instr 2 8) fun f s t l =>
      vpair t f.vdst.toNat l = qword s (space f) (access 8 f s l).ea
      ∧ ∀ i < 2, t.holdsValue (f.vdst.toNat + i) l = true := by
  refine (ho.runs_load rfl).imp fun f s t l hlane => ?_
  have hret := loadOperation_lane_returned (instr := instr) 2 8 id f s l (s.mem (space f))
  exact ⟨hlane.vpair_eq (i := 0) (by rw [hret]; rfl) (by rw [hret]; rfl), fun i hi => hlane.holdsValue (by rwa [hret])⟩

/-- Two loads of dwords into two registers. -/
theorem Operation.Meant.load2Dwords (ho : (load2Operation 32 instr scale).Meant) :
    Runs (load2Shape instr 32 scale) fun f s t l =>
      t.vreg f.vdst.toNat l = dword s (space f) (access0 scale 4 f s l).ea
      ∧ t.vreg (f.vdst.toNat + 1) l = dword s (space f) (access1 scale 4 f s l).ea
      ∧ ∀ i < 2, t.holdsValue (f.vdst.toNat + i) l = true := by
  refine (ho.runs_load rfl).imp fun f s t l hlane => ?_
  have hret := load2Operation_lane_returned (instr := instr) (scale := scale) 32 f s l (s.mem (space f))
  obtain ⟨hfirst, -⟩ := hlane.returned 0 _ (by rw [hret]; rfl)
  obtain ⟨hsecond, -⟩ := hlane.returned 1 _ (by rw [hret]; rfl)
  exact ⟨hfirst, hsecond, fun i hi => hlane.holdsValue (by rwa [hret])⟩

/-- Two loads of 64 bits into two register pairs. -/
theorem Operation.Meant.load2Qwords (ho : (load2Operation 64 instr scale).Meant) :
    Runs (load2Shape instr 64 scale) fun f s t l =>
      vpair t f.vdst.toNat l = qword s (space f) (access0 scale 8 f s l).ea
      ∧ vpair t (f.vdst.toNat + 2) l = qword s (space f) (access1 scale 8 f s l).ea
      ∧ ∀ i < 4, t.holdsValue (f.vdst.toNat + i) l = true := by
  refine (ho.runs_load rfl).imp fun f s t l hlane => ?_
  have hret := load2Operation_lane_returned (instr := instr) (scale := scale) 64 f s l (s.mem (space f))
  have hfirst := hlane.vpair_eq (i := 0) (by rw [hret]; rfl) (by rw [hret]; rfl)
  have hsecond := hlane.vpair_eq (i := 2) (by rw [hret]; rfl) (by rw [hret]; rfl)
  exact ⟨hfirst, hsecond, fun i hi => hlane.holdsValue (by rwa [hret])⟩

end

end Sys2Proof.Claims

/-! ## The statements -/

namespace Sys2Proof.Proofs

open Sys2Proof.Machine Sys2Proof.Claims

/-- Settles O33: the number read is the dword, or the byte or the two bytes with their extension. -/
theorem loadsIntoOneRegister : Obligations.LoadsIntoOneRegister := by
  refine ⟨(load_meant (ext2 := id) rfl).load fun _ _ _ => rfl,
    (load_meant (ext2 := signExtended 8) rfl).load fun f s l => ?i8,
    (load_meant (ext2 := id) rfl).load fun f s l => ?u8,
    (load_meant (ext2 := signExtended 16) rfl).load fun f s l => ?i16,
    (load_meant (ext2 := id) rfl).load fun f s l => ?u16⟩
  case i8 => rw [ofNat_signExtended 8, valueAt_byte, ea_of_width_one rfl, State.byteAt]
  case u8 => rw [id_eq, ofNat_memRead_eq_setWidth (w := 8) (by decide), valueAt_byte, ea_of_width_one rfl, State.byteAt]
  case i16 => rw [ofNat_signExtended 16, valueAt_two_bytes, State.byteAt, State.byteAt]
  case u16 => rw [id_eq, ofNat_memRead_eq_setWidth (w := 16) (by decide), valueAt_two_bytes, State.byteAt, State.byteAt]

/-- Settles O34: the two dwords of a value stand in a register pair, and the value of the first address comes first. -/
theorem loadsIntoSeveralRegisters : Obligations.LoadsIntoSeveralRegisters := by
  refine ⟨(load_meant rfl).loadQword, ?_, ?_⟩
  · simp only [List.forall_mem_cons]
    exact ⟨(load2_meant).load2Dwords, (load2_meant).load2Dwords, List.forall_mem_nil _⟩
  · simp only [List.forall_mem_cons]
    exact ⟨(load2_meant).load2Qwords, (load2_meant).load2Qwords, List.forall_mem_nil _⟩

end Sys2Proof.Proofs

/-! PROOFS of the statements about the 64-bit atomics without return (spec/44_ds_atomic_64.md): the read-modify-write on
register pairs. -/

namespace Sys2Proof.Claims

open Sys2Proof.Machine

section
variable {instr : DsFields → Instr} {gk two rtn : Bool} {w : Nat} {g : BitVec w → BitVec w → BitVec w → BitVec w}

/-- A read-modify-write of any width leaves `g` of the value it reads. -/
theorem LaneResult.rmw_memory {f : DsFields} {s t : State} {l : Nat}
    (h : LaneResult (rmwOperation w instr gk two rtn g) f s t l) (hw : 8 ∣ w) :
    valueAt w (t.mem (space f)) (access (w / 8) f s l).ea
      = g (valueAt w (s.mem (space f)) (access (w / 8) f s l).ea) (operand w s f.vdata0.toNat l)
          (operand w s f.vdata1.toNat l) :=
  (h.valueAt_eq (List.mem_singleton_self _) rfl).trans (valueAt_memWrite hw ..)

/-- It returns the number it reads, low dword first. -/
theorem rmwOperation_lane_toWords (f : DsFields) (s : State) (l : Nat) (m : Memory) :
    ((rmwOperation w instr gk two true g).lane plainPort f s l m).2
      = toWords (w / 32) (memRead m (access (w / 8) f s l).ea (w / 8)) :=
  dwordsOf_eq_toWords ..

end

/-- A 64-bit read-modify-write stores `g` of the value it reads, and returns that value in a register pair. -/
theorem Operation.Meant.rmw64 {instr : DsFields → Instr} {two rtn : Bool}
    {g : BitVec 64 → BitVec 64 → BitVec 64 → BitVec 64} (ho : (rmwOperation 64 instr true two rtn g).Meant) :
    Rmw64 instr two rtn g := by
  refine ho.runs.imp fun f s t l hres halone => ?_
  have hlane := hres halone
  constructor
  · simp only [qword_eq_valueAt, ← operand_qword]
    exact hlane.rmw_memory (by decide)
  · rintro rfl
    have hret := rmwOperation_lane_toWords (instr := instr) (gk := true) (two := two) (g := g) f s l (s.mem (space f))
    have hholds (i : Nat) (hi : i < 2) : t.holdsValue (f.vdst.toNat + i) l = true := hlane.holdsValue (by rwa [hret])
    have hpair := hlane.vpair_eq (i := 0) (by rw [hret]; rfl) (by rw [hret]; rfl)
    exact ⟨hpair, hholds 0 Nat.two_pos, hholds 1 Nat.one_lt_two⟩

end Sys2Proof.Claims

/-! ## The statements -/

namespace Sys2Proof.Proofs

open Sys2Proof.Machine Sys2Proof.Claims

/-- Settles O35: each is the read-modify-write of its function, on register pairs and the 64-bit value in memory. -/
theorem arithmetic64 : Obligations.Arithmetic64 :=
  ⟨(rmw_meant rfl).rmw64, (rmw_meant rfl).rmw64, (rmw_meant rfl).rmw64, (rmw_meant alu_inc_eq).rmw64,
    (rmw_meant alu_dec_eq).rmw64, (rmw_meant alu_minS_eq).rmw64, (rmw_meant alu_maxS_eq).rmw64,
    (rmw_meant alu_minU_eq).rmw64, (rmw_meant alu_maxU_eq).rmw64⟩

/-- Settles O36: as for O35; `DS_MSKOR_B64` and `DS_CMPST_B64` read the pair in `VDATA1` too. -/
theorem bitwiseCompare64 : Obligations.BitwiseCompare64 :=
  ⟨(rmw_meant rfl).rmw64, (rmw_meant rfl).rmw64, (rmw_meant rfl).rmw64, (rmw_meant rfl).rmw64, (rmw_meant rfl).rmw64⟩

end Sys2Proof.Proofs

/-! PROOFS of the statements about the 64-bit atomics that return (spec/45_ds_atomic_rtn_64.md): the read-modify-writes
on register pairs, and the two exchanges, whose four destination registers are two pairs. -/

namespace Sys2Proof.Claims

open Sys2Proof.Machine

section
variable {scale : Nat} {instr : DsFields → Instr}

/-- Two exchanges of any width return the number at the first address, and then the one at the second as the first
exchange has left it, each low dword first. -/
theorem exchange2Operation_lane_toWords (w : Nat) (f : DsFields) (s : State) (l : Nat) (m : Memory) :
    ((exchange2Operation w instr scale).lane plainPort f s l m).2
      = toWords (w / 32) (memRead m (access0 scale (w / 8) f s l).ea (w / 8))
        ++ toWords (w / 32) (memRead
            (memWrite m (access0 scale (w / 8) f s l).ea (w / 8) (operand w s f.vdata0.toNat l).toNat)
            (access1 scale (w / 8) f s l).ea (w / 8)) :=
  congrArg₂ (· ++ ·) (dwordsOf_eq_toWords ..) (dwordsOf_eq_toWords ..)

/-- Two exchanges of 64 bits leave in the pair at `VDST` the value of the first address, and in the pair after it the
value of the second as the first exchange has left it: `D0` where both are to one address (log entry 17). -/
theorem LaneResult.exchange2_vpairs {f : DsFields} {s t : State} {l : Nat}
    (h : LaneResult (exchange2Operation 64 instr scale) f s t l) :
    vpair t f.vdst.toNat l = valueAt 64 (s.mem (space f)) (access0 scale 8 f s l).ea
      ∧ vpair t (f.vdst.toNat + 2) l
          = (if (access0 scale 8 f s l).ea = (access1 scale 8 f s l).ea then operand 64 s f.vdata0.toNat l
            else valueAt 64 (s.mem (space f)) (access1 scale 8 f s l).ea)
      ∧ ∀ i < 4, t.holdsValue (f.vdst.toNat + i) l = true := by
  have hret := exchange2Operation_lane_toWords (instr := instr) (scale := scale) 64 f s l (s.mem (space f))
  have hfirst := h.vpair_eq (i := 0) (by rw [hret]; rfl) (by rw [hret]; rfl)
  have hsecond := h.vpair_eq (i := 2) (by rw [hret]; rfl) (by rw [hret]; rfl)
  exact ⟨hfirst, hsecond.trans (valueAt_ea_memWrite (w := 64) (by decide) rfl rfl ..),
    fun i hi => h.holdsValue (by rwa [hret])⟩

/-- The two exchanges of register pairs. -/
theorem Operation.Meant.exchange2Qwords (ho : (exchange2Operation 64 instr scale).Meant) :
    Exchange2Qwords instr scale := by
  refine ho.runs.imp fun f s t l hres halone => ?_
  have hlane := hres halone
  obtain ⟨hsecond, hfirst⟩ := hlane.exchange2_memory (by decide)
  obtain ⟨hold0, hold1, hholds⟩ := hlane.exchange2_vpairs
  rw [operand_qword] at hsecond hfirst hold1
  refine ⟨hsecond, hold0, ?_, hholds⟩
  split
  · rename_i heq
    exact hold1.trans (if_pos heq)
  · rename_i hne
    exact ⟨hold1.trans (if_neg hne), hfirst hne⟩

end

end Sys2Proof.Claims

/-! ## The statements -/

namespace Sys2Proof.Proofs

open Sys2Proof.Machine Sys2Proof.Claims

/-- Settles O32: the second exchange of a lane sees the first, so its pair is `D0` where both are to one address. -/
theorem twoQwordExchanges : Obligations.TwoQwordExchanges :=
  ⟨(exchange2_meant).exchange2Qwords, (exchange2_meant).exchange2Qwords⟩

/-- Settles O37: each is the 64-bit read-modify-write of its function, and returns the pair it replaces. -/
theorem returningArithmetic64 : Obligations.ReturningArithmetic64 :=
  ⟨(rmw_meant rfl).rmw64, (rmw_meant rfl).rmw64, (rmw_meant rfl).rmw64, (rmw_meant alu_inc_eq).rmw64,
    (rmw_meant alu_dec_eq).rmw64, (rmw_meant alu_minS_eq).rmw64, (rmw_meant alu_maxS_eq).rmw64,
    (rmw_meant alu_minU_eq).rmw64, (rmw_meant alu_maxU_eq).rmw64⟩

/-- Settles O38: as for O37; the exchange ignores the old value, and `DS_MSKOR_RTN_B64` and `DS_CMPST_RTN_B64` read the
pair in `VDATA1` too. -/
theorem returningBitwiseExchangeCompare64 : Obligations.ReturningBitwiseExchangeCompare64 :=
  ⟨(rmw_meant rfl).rmw64, (rmw_meant rfl).rmw64, (rmw_meant rfl).rmw64, (rmw_meant rfl).rmw64, (rmw_meant rfl).rmw64,
    (rmw_meant rfl).rmw64⟩

end Sys2Proof.Proofs

/-! PROOFS of the statement about `DS_NOP` (spec/47_ds_sync_lane_misc.md), the one instruction of its family that runs:
its outcome turns on `ADMIT_GK` alone. -/

namespace Sys2Proof.Machine

/-- `DS_NOP` runs no plan: it completes or is refused by `ADMIT_GK` (R281, R303), whatever its fields, `M0`, the mask and
the registers hold. -/
theorem exec_dsNop (f : DsFields) (s : State) :
    exec (.dsNop f) s = if s.params.admitGk then .next s.advance else undescribed .dsNop s := rfl

theorem exec_dsNop_admitted (f : DsFields) {s : State} (hgk : s.params.admitGk = true) :
    exec (.dsNop f) s = .next s.advance := by
  rw [exec_dsNop, if_pos hgk]

end Sys2Proof.Machine

/-! ## The statement -/

namespace Sys2Proof.Proofs

open Sys2Proof.Machine

/-- Settles O39: where the readings are admitted, `DS_NOP` answers the state moved to the next word (`State.advance`),
which differs from the one before in `pc` alone. -/
theorem nopOnlyAdvancesPc : Obligations.NopOnlyAdvancesPc := by
  intro f s hgk
  calc exec (.dsNop f) s
      _ = .next s.advance := exec_dsNop_admitted f hgk
      _ = .next { s with pc := s.pc + 8 } := by rw [State.advance]

end Sys2Proof.Proofs

/-! PROOFS of the statements about the outcomes that stop a run (spec/60_exceptions.md): which words stop the step, which
instructions are refused, and what any instruction can answer. -/

/-! ## What the decoder and the readings answer -/

namespace Sys2Proof

/-- A word of the DS class is rejected for one of two reasons, or is an instruction (R79, R83, R92). -/
theorem decode_of_ds_class (layout : DsLayout) (arch : Arch) {w : InstrWord} (henc : encodingField w = 0b110110#6) :
    decode layout arch w = .illegal .bit16 ∨ decode layout arch w = .illegal .unassignedOpcode
      ∨ ∃ i, decode layout arch w = .ds i := by
  cases h16 : w.getLsbD 16 with
  | true => exact .inl (decode_bit16 henc h16)
  | false =>
    cases hop : mnemonicOf arch (opcodeField w) with
    | none => exact .inr (.inl (decode_unassigned henc h16 hop))
    | some m => exact .inr (.inr ⟨_, decode_assigned henc h16 hop⟩)

end Sys2Proof

namespace Sys2Proof.Machine

/-- Where the readings are not admitted, the plan of one does not run (R303 item 1). -/
theorem runPlanOf_notAdmitted {s : State} (h : s.params.admitGk = false) (m : Mnemonic) (sp : Space) (plan : LanePlan) :
    runPlanOf true m sp plan s = undescribed m s := by
  simp [runPlanOf, runGkPlan, h]

theorem exec_dsNop_notAdmitted (f : DsFields) {s : State} (hgk : s.params.admitGk = false) :
    exec (.dsNop f) s = undescribed .dsNop s := by
  simp [exec_dsNop, hgk]

/-- The access reported as out of range is one of an active lane that is not admitted (R301). -/
theorem firstOutOfRange_eq_some {plan : LanePlan} {sp : Space} {s : State} {r : Fault}
    (h : plan.firstOutOfRange sp s = some r) :
    ∃ l ∈ s.activeLanes, ∃ a ∈ plan.accesses l, s.admits sp a = false ∧ r = s.rangeFault sp l a := by
  rw [LanePlan.firstOutOfRange, Option.ite_none_right_eq_some] at h
  obtain ⟨l, hl, hlane⟩ := List.exists_of_findSome?_eq_some h.2
  obtain ⟨a, ha, hacc⟩ := List.exists_of_findSome?_eq_some hlane
  rw [Option.ite_none_left_eq_some, Option.some.injEq, Bool.not_eq_true] at hacc
  exact ⟨l, hl, a, ha, hacc.1, hacc.2.symm⟩

end Sys2Proof.Machine

/-! ## What any instruction can answer -/

namespace Sys2Proof.Claims

open Sys2Proof.Machine

/-- The mnemonic of a shape runs a plan on the space its fields select, as a reading or as a described instruction. -/
theorem exec_memoryShapes {sh : Shape} (hsh : sh ∈ memoryShapes) (f g : DsFields) (s : State) :
    ∃ plan, exec ((sh.instr g).mnemonic.instr f) s = runPlanOf sh.gk (sh.instr g).mnemonic (space f) plan s := by
  obtain ⟨plan, hplan⟩ := memoryShapes_carry sh hsh
  have hrun := hplan.runs f s
  rw [memoryShapes_instr sh hsh f g, mnemonic_instr] at hrun
  exact ⟨plan f s, hrun⟩

/-- An instruction is refused as `undescribed`, only moves `pc`, or runs a plan on the space it selects. -/
theorem exec_cases (i : Instr) (s : State) :
    exec i s = undescribed i.mnemonic s ∨ exec i s = .next s.advance
      ∨ ∃ plan, exec i s = runPlan i.mnemonic (space i.fields) plan s := by
  obtain ⟨m, f, rfl⟩ : ∃ (m : Mnemonic) (f : DsFields), i = m.instr f := ⟨_, _, (instr_mnemonic_fields i).symm⟩
  rw [mnemonic_instr, fields_instr]
  rcases mnemonic_cases m with hm | hm | rfl
  · obtain ⟨sh, hsh, rfl⟩ := List.mem_map.1 hm
    obtain ⟨plan, hrun⟩ := exec_memoryShapes hsh f ⟨0, false, 0, 0, 0, 0⟩ s
    by_cases hgk : sh.gk = true → s.params.admitGk = true
    · rw [runPlanOf_admitted hgk] at hrun
      exact .inr (.inr ⟨_, hrun⟩)
    · obtain ⟨hreading, hadmit⟩ := Classical.not_imp.1 hgk
      rw [hreading, runPlanOf_notAdmitted (Bool.eq_false_iff.2 hadmit)] at hrun
      exact .inl hrun
  · exact .inl (exec_refusedMnemonics m hm f s)
  · cases hgk : s.params.admitGk with
    | true => exact .inr (.inl (exec_dsNop_admitted f hgk))
    | false => exact .inl (exec_dsNop_notAdmitted f hgk)

/-- Every instruction with a reading is `DS_NOP` or accesses memory by a shape marked as a reading's. -/
theorem readingMnemonics_cases : ∀ m ∈ readingMnemonics, m = .dsNop ∨
    m ∈ (memoryShapes.filter (fun sh => sh.gk)).map (fun sh => (sh.instr ⟨0, false, 0, 0, 0, 0⟩).mnemonic) := by
  decide

/-- Where the readings are not admitted, an instruction with a reading is refused (R303 item 1). -/
theorem exec_readingMnemonics {m : Mnemonic} (hm : m ∈ readingMnemonics) (f : DsFields) {s : State}
    (hgk : s.params.admitGk = false) : exec (m.instr f) s = undescribed m s := by
  rcases readingMnemonics_cases m hm with rfl | hm
  · exact exec_dsNop_notAdmitted f hgk
  · obtain ⟨sh, hsh, rfl⟩ := List.mem_map.1 hm
    obtain ⟨hsh, hreading⟩ := List.mem_filter.1 hsh
    obtain ⟨plan, hrun⟩ := exec_memoryShapes hsh f ⟨0, false, 0, 0, 0, 0⟩ s
    rw [hrun, hreading, runPlanOf_notAdmitted hgk]

end Sys2Proof.Claims

/-! ## The statements -/

namespace Sys2Proof.Proofs

open Sys2Proof.Machine Sys2Proof.Claims

/-- Settles O13: a word outside the DS class stops as `not_ds`; one of the class that is no instruction stops for one of
the decoder's two reasons. -/
theorem stepStopsOnWhatDoesNotDecode : Obligations.StepStopsOnWhatDoesNotDecode := by
  intro s w hpc hbytes hnot
  have hw : s.fetch = .word w := by rw [fetch_atProgramWord hpc, wordAt_of_holdsWord hbytes]
  by_cases henc : encodingField w = 0b110110#6
  · rcases decode_of_ds_class s.params.layout s.params.arch henc with hd | hd | ⟨i, hd⟩
    · exact ⟨.bit16, step_of_illegal hw hd, by simp [henc]⟩
    · exact ⟨.unassignedOpcode, step_of_illegal hw hd, by simp [henc]⟩
    · exact absurd hd (hnot i)
  · exact ⟨.notDs, step_of_notDs hw (decode_notDs henc), by simp [henc]⟩

/-- Settles O21: an instruction that runs a plan answers as one of the checks of R305 does, or completes. -/
theorem execHasTheOutcomesOfTheSpec : Obligations.ExecHasTheOutcomesOfTheSpec := by
  intro i s
  rcases exec_cases i s with h | h | ⟨plan, h⟩
  · exact .inr (.inl ⟨_, h⟩)
  · exact .inl ⟨_, h⟩
  · rw [h]
    rcases runPlan_stops plan (space i.fields) i.mnemonic s with hnext | hfile | hunwritten | ⟨r, hr, hrange⟩
    · exact .inl hnext
    · exact .inr (.inl ⟨_, hfile⟩)
    · exact .inr (.inr (.inl hunwritten))
    · obtain ⟨l, hl, a, -, hadmits, rfl⟩ := firstOutOfRange_eq_some hr
      exact .inr (.inr (.inr ⟨l, a, hrange, hl, fun hadm => by simp [(admits_iff ..).2 hadm] at hadmits⟩))

/-- Settles O47: each arm of the tier answers `undescribed` at once (`exec_refusedMnemonics`). -/
theorem lowTierIsAlwaysRefused : Obligations.LowTierIsAlwaysRefused := ⟨rfl, exec_refusedMnemonics⟩

/-- Settles O48: `ADMIT_GK` is looked at before the plan's registers. -/
theorem readingsNeedAdmitGk : Obligations.ReadingsNeedAdmitGk :=
  ⟨rfl, fun _ hm f _ hgk => exec_readingMnemonics hm f hgk⟩

end Sys2Proof.Proofs
